-- ==== Sys2Proof/Word.lean ====
section
/-! DEFINITION. The two data types of the core (00_scope.md R8, R11: `u8` and `u16`; 42_alu.md R166: there are no others). -/

namespace Sys2Proof

/-- `u8`: a register, the flag byte, a memory byte (R8). -/
abbrev Byte := BitVec 8

/-- `u16`: `pc`, `sp`, an address, a register-pair view (R8). -/
abbrev Word := BitVec 16

end Sys2Proof
end

