-- ==== Sys2Proof/Config.lean ====
section
/-! DEFINITION. The configuration inputs of the core, fixed before reset (00_scope.md R9, 10_state.md R44). The core has no
free value: no rule of the spec leaves a result open (40_fetch_execute.md R120).

DESIGN CHOICE (log 1): the parameters are a record that State holds, so that a claim about every state is a claim about
every configuration. -/

namespace Sys2Proof

/-- How the twelve opcodes with an unwired condition are read (00_scope.md R9; 44_control_transfer.md R201, R202). -/
inductive UnwiredCcMode where
  /-- The default: bound, and the condition is false. -/
  | boundNeverTransfer
  /-- The alternative: the twelve bytes are undefined opcodes. -/
  | unbound
  deriving DecidableEq, Repr

/-- The parameters of 00_scope.md R9, except the program image, which is an argument of the reset operation. -/
structure Config where
  /-- `LOAD_ADDR` -/
  loadAddr : Word
  /-- `STACK_BOUNDARY` -/
  stackBoundary : Word
  /-- `SP_RESET` -/
  spReset : Word
  /-- `UNWIRED_CC_MODE` -/
  unwiredCcMode : UnwiredCcMode
  deriving DecidableEq, Repr

/-- The configuration of `State.reset`. `SP_RESET` and `UNWIRED_CC_MODE` are the spec's defaults (R9; log 3).
DESIGN CHOICE (log 2, unsafe): `LOAD_ADDR` and `STACK_BOUNDARY` are OPEN; these are the example values of
95_test_vectors.md, and no statement rests on them. -/
def Config.standard : Config :=
  { loadAddr := 0x0800, stackBoundary := 0xF000, spReset := 0xFFFF, unwiredCcMode := .boundNeverTransfer }

end Sys2Proof
end

