-- ==== Sys2Proof/Fields.lean ====
section
/-! DEFINITION. The names an encoding field or an inspector argument can stand for: registers, operands, pairs, ALU operations,
conditions and flags. Their numbers are in Sys2Proof/Decode.lean. -/

namespace Sys2Proof

/-- The seven physical registers (10_state.md R20, R21). -/
inductive Reg where
  | b | c | d | e | h | l | a
  deriving DecidableEq, Repr

/-- What a 3-bit register field names: a physical register, or `M`, the byte at H:L (10_state.md R21, R23). -/
inductive Loc where
  | reg (r : Reg)
  | m
  deriving DecidableEq, Repr

/-- The pairs of LXI, INX and DCX (10_state.md R24, R25). -/
inductive Pair where
  | bc | de | hl | sp
  deriving DecidableEq, Repr

/-- The pairs of LDAX and STAX (10_state.md R25). -/
inductive IndPair where
  | bc | de
  deriving DecidableEq, Repr

/-- The pairs of PUSH and POP (10_state.md R24, R25). -/
inductive StackPair where
  | bc | de | hl | psw
  deriving DecidableEq, Repr

/-- The eight operations of the ALU (42_alu.md R142). -/
inductive AluOp where
  | add | adc | sub | sbb | ana | xra | ora | cmp
  deriving DecidableEq, Repr

/-- The eight condition encodings (44_control_transfer.md R200). -/
inductive Cond where
  | nz | z | nc | c | po | pe | p | m
  deriving DecidableEq, Repr

/-- The five named flags (10_state.md R27). -/
inductive Flag where
  | cy | p | ac | z | s
  deriving DecidableEq, Repr

/-- The five pair identifiers of the inspector port (60_exceptions.md R265). -/
inductive PortPair where
  | bc | de | hl | sp | psw
  deriving DecidableEq, Repr

end Sys2Proof
end

