-- ==== Sys2Proof/Syntax.lean ====
section
/-! DEFINITION. The instruction set: one constructor per bound opcode byte of spec/opcode_table.json (30_encoding.md R86), with
its operand (`v` an immediate, `a` an address), and one for the table's 35 undefined rows. -/

namespace Sys2Proof

inductive Instr where
  -- The data-movement block `01dddsss` (30_encoding.md R87; 41_data_movement.md R130 to R132)
  | movBB
  | movBC
  | movBD
  | movBE
  | movBH
  | movBL
  | movBM
  | movBA
  | movCB
  | movCC
  | movCD
  | movCE
  | movCH
  | movCL
  | movCM
  | movCA
  | movDB
  | movDC
  | movDD
  | movDE
  | movDH
  | movDL
  | movDM
  | movDA
  | movEB
  | movEC
  | movED
  | movEE
  | movEH
  | movEL
  | movEM
  | movEA
  | movHB
  | movHC
  | movHD
  | movHE
  | movHH
  | movHL
  | movHM
  | movHA
  | movLB
  | movLC
  | movLD
  | movLE
  | movLH
  | movLL
  | movLM
  | movLA
  | movMB
  | movMC
  | movMD
  | movME
  | movMH
  | movML
  | movMA
  | movAB
  | movAC
  | movAD
  | movAE
  | movAH
  | movAL
  | movAM
  | movAA
  -- MVI (R88; R133, R134)
  | mviB (v : Byte)
  | mviC (v : Byte)
  | mviD (v : Byte)
  | mviE (v : Byte)
  | mviH (v : Byte)
  | mviL (v : Byte)
  | mviM (v : Byte)
  | mviA (v : Byte)
  -- The ALU register forms `10ooosss` (R89; 42_alu.md R143 to R150)
  | addB
  | addC
  | addD
  | addE
  | addH
  | addL
  | addM
  | addA
  | adcB
  | adcC
  | adcD
  | adcE
  | adcH
  | adcL
  | adcM
  | adcA
  | subB
  | subC
  | subD
  | subE
  | subH
  | subL
  | subM
  | subA
  | sbbB
  | sbbC
  | sbbD
  | sbbE
  | sbbH
  | sbbL
  | sbbM
  | sbbA
  | anaB
  | anaC
  | anaD
  | anaE
  | anaH
  | anaL
  | anaM
  | anaA
  | xraB
  | xraC
  | xraD
  | xraE
  | xraH
  | xraL
  | xraM
  | xraA
  | oraB
  | oraC
  | oraD
  | oraE
  | oraH
  | oraL
  | oraM
  | oraA
  | cmpB
  | cmpC
  | cmpD
  | cmpE
  | cmpH
  | cmpL
  | cmpM
  | cmpA
  -- The ALU immediate forms (R92; R151 to R158)
  | adi (v : Byte)
  | aci (v : Byte)
  | sui (v : Byte)
  | sbi (v : Byte)
  | ani (v : Byte)
  | xri (v : Byte)
  | ori (v : Byte)
  | cpi (v : Byte)
  -- INR and DCR (R88; R159, R160)
  | inrB
  | inrC
  | inrD
  | inrE
  | inrH
  | inrL
  | inrM
  | inrA
  | dcrB
  | dcrC
  | dcrD
  | dcrE
  | dcrH
  | dcrL
  | dcrM
  | dcrA
  -- The accumulator rotates (R92; R162 to R165)
  | rlc
  | rrc
  | ral
  | rar
  -- The register-pair instructions (R90; 43_register_pair.md R181 to R188)
  | lxiB (v : Word)
  | lxiD (v : Word)
  | lxiH (v : Word)
  | lxiSp (v : Word)
  | ldaxB
  | ldaxD
  | staxB
  | staxD
  | inxB
  | inxD
  | inxH
  | inxSp
  | dcxB
  | dcxD
  | dcxH
  | dcxSp
  | pushB
  | pushD
  | pushH
  | pushPsw
  | popB
  | popD
  | popH
  | popPsw
  -- The control transfers (R91; 44_control_transfer.md R203 to R229)
  | jmp (a : Word)
  | jnz (a : Word)
  | jz (a : Word)
  | jnc (a : Word)
  | jc (a : Word)
  | jpo (a : Word)
  | jpe (a : Word)
  | jp (a : Word)
  | jm (a : Word)
  | call (a : Word)
  | cnz (a : Word)
  | cz (a : Word)
  | cnc (a : Word)
  | cc (a : Word)
  | cpo (a : Word)
  | cpe (a : Word)
  | cp (a : Word)
  | cm (a : Word)
  | ret
  | rnz
  | rz
  | rnc
  | rc
  | rpo
  | rpe
  | rp
  | rm
  -- The single-slot instructions (R92, R93; 45_single_slot.md R240 to R246)
  | nop
  | hlt
  | lda (a : Word)
  | sta (a : Word)
  | lhld (a : Word)
  | shld (a : Word)
  | xchg
  /-- An opcode byte that the dispatch table does not bind (R95; 40_fetch_execute.md R113). -/
  | undefined (op : Byte)
  deriving DecidableEq, Repr

end Sys2Proof
end

