-- ==== Sys2Proof/WellFormed.lean ====
section
/-! DEFINITION. Which instructions a configuration has (30_encoding.md R86, R95; 44_control_transfer.md R202). -/

namespace Sys2Proof

/-- The 35 opcode bytes that no configuration binds, as 30_encoding.md R95 lists them. -/
def undefinedOpcodes : List Byte :=
  [0x08, 0x09, 0x10, 0x18, 0x19, 0x20, 0x27, 0x28, 0x29, 0x2F, 0x30, 0x37,
   0x38, 0x39, 0x3F, 0xC7, 0xCB, 0xCF, 0xD3, 0xD7, 0xD9, 0xDB, 0xDD, 0xDF,
   0xE3, 0xE7, 0xE9, 0xED, 0xEF, 0xF3, 0xF7, 0xF9, 0xFB, 0xFD, 0xFF]

/-- The twelve opcode bytes with an unwired condition: undefined too in mode `Unbound` (30_encoding.md R95;
44_control_transfer.md R202). -/
def unwiredOpcodes : List Byte :=
  [0xE0, 0xE2, 0xE4, 0xE8, 0xEA, 0xEC, 0xF0, 0xF2, 0xF4, 0xF8, 0xFA, 0xFC]

/-- An opcode byte with no bound operation in the configuration's dispatch table (R95). -/
def isUndefinedOpcode (mode : UnwiredCcMode) (op : Byte) : Bool :=
  undefinedOpcodes.contains op || (mode == .unbound && unwiredOpcodes.contains op)

/-- An instruction that some byte sequence encodes: `undefined` carries an undefined opcode byte, and an unwired conditional
instruction exists only where its opcode is bound (R91, R202). -/
def WellFormed (mode : UnwiredCcMode) (i : Instr) : Bool :=
  match i with
  | .rpo => mode == .boundNeverTransfer
  | .jpo _ => mode == .boundNeverTransfer
  | .cpo _ => mode == .boundNeverTransfer
  | .rpe => mode == .boundNeverTransfer
  | .jpe _ => mode == .boundNeverTransfer
  | .cpe _ => mode == .boundNeverTransfer
  | .rp => mode == .boundNeverTransfer
  | .jp _ => mode == .boundNeverTransfer
  | .cp _ => mode == .boundNeverTransfer
  | .rm => mode == .boundNeverTransfer
  | .jm _ => mode == .boundNeverTransfer
  | .cm _ => mode == .boundNeverTransfer
  | .undefined op => isUndefinedOpcode mode op
  | .movBB | .movBC | .movBD | .movBE | .movBH | .movBL | .movBM | .movBA
  | .movCB | .movCC | .movCD | .movCE | .movCH | .movCL | .movCM | .movCA
  | .movDB | .movDC | .movDD | .movDE | .movDH | .movDL | .movDM | .movDA
  | .movEB | .movEC | .movED | .movEE | .movEH | .movEL | .movEM | .movEA
  | .movHB | .movHC | .movHD | .movHE | .movHH | .movHL | .movHM | .movHA
  | .movLB | .movLC | .movLD | .movLE | .movLH | .movLL | .movLM | .movLA
  | .movMB | .movMC | .movMD | .movME | .movMH | .movML | .movMA | .movAB
  | .movAC | .movAD | .movAE | .movAH | .movAL | .movAM | .movAA | .mviB _
  | .mviC _ | .mviD _ | .mviE _ | .mviH _ | .mviL _ | .mviM _ | .mviA _ | .addB
  | .addC | .addD | .addE | .addH | .addL | .addM | .addA | .adcB
  | .adcC | .adcD | .adcE | .adcH | .adcL | .adcM | .adcA | .subB
  | .subC | .subD | .subE | .subH | .subL | .subM | .subA | .sbbB
  | .sbbC | .sbbD | .sbbE | .sbbH | .sbbL | .sbbM | .sbbA | .anaB
  | .anaC | .anaD | .anaE | .anaH | .anaL | .anaM | .anaA | .xraB
  | .xraC | .xraD | .xraE | .xraH | .xraL | .xraM | .xraA | .oraB
  | .oraC | .oraD | .oraE | .oraH | .oraL | .oraM | .oraA | .cmpB
  | .cmpC | .cmpD | .cmpE | .cmpH | .cmpL | .cmpM | .cmpA | .adi _
  | .aci _ | .sui _ | .sbi _ | .ani _ | .xri _ | .ori _ | .cpi _ | .inrB
  | .inrC | .inrD | .inrE | .inrH | .inrL | .inrM | .inrA | .dcrB
  | .dcrC | .dcrD | .dcrE | .dcrH | .dcrL | .dcrM | .dcrA | .rlc
  | .rrc | .ral | .rar | .lxiB _ | .lxiD _ | .lxiH _ | .lxiSp _ | .ldaxB
  | .ldaxD | .staxB | .staxD | .inxB | .inxD | .inxH | .inxSp | .dcxB
  | .dcxD | .dcxH | .dcxSp | .pushB | .pushD | .pushH | .pushPsw | .popB
  | .popD | .popH | .popPsw | .jmp _ | .jnz _ | .jz _ | .jnc _ | .jc _
  | .call _ | .cnz _ | .cz _ | .cnc _ | .cc _ | .ret | .rnz | .rz
  | .rnc | .rc | .nop | .hlt | .lda _ | .sta _ | .lhld _ | .shld _
  | .xchg => true

end Sys2Proof
end

