-- ==== Sys2Proof/Decode.lean ====
section
/-! DEFINITION. The opcode decoder, by the fields of 30_encoding.md R81 and R82, and the encoder, by the opcode bytes of
30_encoding.md R87 to R93 and spec/opcode_table.json. Decoding is total on bytes: an opcode with no bound operation is the
instruction `undefined`; only a byte list that ends too early is rejected. -/

namespace Sys2Proof

/-! ## Byte order (20_memory.md R56) and fields (30_encoding.md R82) -/

/-- `hi:lo`, concatenation with `hi` high (00_scope.md R11). -/
def mk16 (hi lo : Byte) : Word := hi ++ lo

/-- `v[7:0]` -/
def loByte (v : Word) : Byte := v.setWidth 8

/-- `v[15:8]` -/
def hiByte (v : Word) : Byte := v.extractLsb' 8 8

/-- `ddd`, `ooo` or `ccc`: bits 5:3 of the opcode (R81). -/
def fieldHi (op : Byte) : BitVec 3 := op.extractLsb' 3 3

/-- `sss`: bits 2:0 of the opcode (R81). -/
def fieldLo (op : Byte) : BitVec 3 := op.extractLsb' 0 3

/-- `pp`: bits 5:4 of the opcode (R81). -/
def fieldPair (op : Byte) : BitVec 2 := op.extractLsb' 4 2

/-- The register identifiers (10_state.md R21). -/
def regId : Reg → BitVec 3
  | .b => 0 | .c => 1 | .d => 2 | .e => 3 | .h => 4 | .l => 5 | .a => 7

/-- The register field, `M` being identifier 6 (10_state.md R21). -/
def locId : Loc → BitVec 3
  | .reg r => regId r
  | .m => 6

/-- The ALU operation numbers (30_encoding.md R82). -/
def aluId : AluOp → BitVec 3
  | .add => 0 | .adc => 1 | .sub => 2 | .sbb => 3 | .ana => 4 | .xra => 5 | .ora => 6 | .cmp => 7

/-- The condition numbers (44_control_transfer.md R200). -/
def condId : Cond → BitVec 3
  | .nz => 0 | .z => 1 | .nc => 2 | .c => 3 | .po => 4 | .pe => 5 | .p => 6 | .m => 7

/-- The pair numbers of LXI, INX and DCX (10_state.md R24). -/
def pairId : Pair → BitVec 2
  | .bc => 0 | .de => 1 | .hl => 2 | .sp => 3

/-- The pair numbers of LDAX and STAX (10_state.md R25). -/
def indPairId : IndPair → BitVec 1
  | .bc => 0 | .de => 1

/-- The pair numbers of PUSH and POP (10_state.md R24). -/
def stackPairId : StackPair → BitVec 2
  | .bc => 0 | .de => 1 | .hl => 2 | .psw => 3

/-- A register field's meaning (10_state.md R21, 30_encoding.md R82). -/
def locOf (n : BitVec 3) : Loc :=
  match n.toNat with
  | 0 => .reg .b | 1 => .reg .c | 2 => .reg .d | 3 => .reg .e
  | 4 => .reg .h | 5 => .reg .l | 6 => .m | _ => .reg .a

/-- An ALU operation field's meaning (30_encoding.md R82). -/
def aluOf (n : BitVec 3) : AluOp :=
  match n.toNat with
  | 0 => .add | 1 => .adc | 2 => .sub | 3 => .sbb
  | 4 => .ana | 5 => .xra | 6 => .ora | _ => .cmp

/-- A condition field's meaning (30_encoding.md R82; 44_control_transfer.md R200). -/
def condOf (n : BitVec 3) : Cond :=
  match n.toNat with
  | 0 => .nz | 1 => .z | 2 => .nc | 3 => .c
  | 4 => .po | 5 => .pe | 6 => .p | _ => .m

/-- A pair field's meaning in LXI, INX and DCX (10_state.md R24, R25). -/
def pairOf (n : BitVec 2) : Pair :=
  match n.toNat with
  | 0 => .bc | 1 => .de | 2 => .hl | _ => .sp

/-- A pair field's meaning in PUSH and POP (10_state.md R24, R25). -/
def stackPairOf (n : BitVec 2) : StackPair :=
  match n.toNat with
  | 0 => .bc | 1 => .de | 2 => .hl | _ => .psw

/-- The conditions with no wired predicate (44_control_transfer.md R201). -/
def unwired : Cond → Bool
  | .nz | .z | .nc | .c => false
  | .po | .pe | .p | .m => true

/-! ## The members of each family (30_encoding.md R87 to R92) -/

/-- The data-movement block (R87); the position MOV M,M is HLT (R93). -/
def mkMov : Loc → Loc → Instr
  | .reg .b, .reg .b => .movBB | .reg .b, .reg .c => .movBC | .reg .b, .reg .d => .movBD | .reg .b, .reg .e => .movBE
  | .reg .b, .reg .h => .movBH | .reg .b, .reg .l => .movBL | .reg .b, .m => .movBM | .reg .b, .reg .a => .movBA
  | .reg .c, .reg .b => .movCB | .reg .c, .reg .c => .movCC | .reg .c, .reg .d => .movCD | .reg .c, .reg .e => .movCE
  | .reg .c, .reg .h => .movCH | .reg .c, .reg .l => .movCL | .reg .c, .m => .movCM | .reg .c, .reg .a => .movCA
  | .reg .d, .reg .b => .movDB | .reg .d, .reg .c => .movDC | .reg .d, .reg .d => .movDD | .reg .d, .reg .e => .movDE
  | .reg .d, .reg .h => .movDH | .reg .d, .reg .l => .movDL | .reg .d, .m => .movDM | .reg .d, .reg .a => .movDA
  | .reg .e, .reg .b => .movEB | .reg .e, .reg .c => .movEC | .reg .e, .reg .d => .movED | .reg .e, .reg .e => .movEE
  | .reg .e, .reg .h => .movEH | .reg .e, .reg .l => .movEL | .reg .e, .m => .movEM | .reg .e, .reg .a => .movEA
  | .reg .h, .reg .b => .movHB | .reg .h, .reg .c => .movHC | .reg .h, .reg .d => .movHD | .reg .h, .reg .e => .movHE
  | .reg .h, .reg .h => .movHH | .reg .h, .reg .l => .movHL | .reg .h, .m => .movHM | .reg .h, .reg .a => .movHA
  | .reg .l, .reg .b => .movLB | .reg .l, .reg .c => .movLC | .reg .l, .reg .d => .movLD | .reg .l, .reg .e => .movLE
  | .reg .l, .reg .h => .movLH | .reg .l, .reg .l => .movLL | .reg .l, .m => .movLM | .reg .l, .reg .a => .movLA
  | .m, .reg .b => .movMB | .m, .reg .c => .movMC | .m, .reg .d => .movMD | .m, .reg .e => .movME
  | .m, .reg .h => .movMH | .m, .reg .l => .movML | .m, .m => .hlt | .m, .reg .a => .movMA
  | .reg .a, .reg .b => .movAB | .reg .a, .reg .c => .movAC | .reg .a, .reg .d => .movAD | .reg .a, .reg .e => .movAE
  | .reg .a, .reg .h => .movAH | .reg .a, .reg .l => .movAL | .reg .a, .m => .movAM | .reg .a, .reg .a => .movAA

/-- MVI (R88). -/
def mkMvi : Loc → Byte → Instr
  | .reg .b, v => .mviB v | .reg .c, v => .mviC v | .reg .d, v => .mviD v | .reg .e, v => .mviE v
  | .reg .h, v => .mviH v | .reg .l, v => .mviL v | .m, v => .mviM v | .reg .a, v => .mviA v

/-- INR (R88). -/
def mkInr : Loc → Instr
  | .reg .b => .inrB | .reg .c => .inrC | .reg .d => .inrD | .reg .e => .inrE
  | .reg .h => .inrH | .reg .l => .inrL | .m => .inrM | .reg .a => .inrA

/-- DCR (R88). -/
def mkDcr : Loc → Instr
  | .reg .b => .dcrB | .reg .c => .dcrC | .reg .d => .dcrD | .reg .e => .dcrE
  | .reg .h => .dcrH | .reg .l => .dcrL | .m => .dcrM | .reg .a => .dcrA

/-- The ALU register forms (R89). -/
def mkAlu : AluOp → Loc → Instr
  | .add, .reg .b => .addB | .add, .reg .c => .addC | .add, .reg .d => .addD | .add, .reg .e => .addE
  | .add, .reg .h => .addH | .add, .reg .l => .addL | .add, .m => .addM | .add, .reg .a => .addA
  | .adc, .reg .b => .adcB | .adc, .reg .c => .adcC | .adc, .reg .d => .adcD | .adc, .reg .e => .adcE
  | .adc, .reg .h => .adcH | .adc, .reg .l => .adcL | .adc, .m => .adcM | .adc, .reg .a => .adcA
  | .sub, .reg .b => .subB | .sub, .reg .c => .subC | .sub, .reg .d => .subD | .sub, .reg .e => .subE
  | .sub, .reg .h => .subH | .sub, .reg .l => .subL | .sub, .m => .subM | .sub, .reg .a => .subA
  | .sbb, .reg .b => .sbbB | .sbb, .reg .c => .sbbC | .sbb, .reg .d => .sbbD | .sbb, .reg .e => .sbbE
  | .sbb, .reg .h => .sbbH | .sbb, .reg .l => .sbbL | .sbb, .m => .sbbM | .sbb, .reg .a => .sbbA
  | .ana, .reg .b => .anaB | .ana, .reg .c => .anaC | .ana, .reg .d => .anaD | .ana, .reg .e => .anaE
  | .ana, .reg .h => .anaH | .ana, .reg .l => .anaL | .ana, .m => .anaM | .ana, .reg .a => .anaA
  | .xra, .reg .b => .xraB | .xra, .reg .c => .xraC | .xra, .reg .d => .xraD | .xra, .reg .e => .xraE
  | .xra, .reg .h => .xraH | .xra, .reg .l => .xraL | .xra, .m => .xraM | .xra, .reg .a => .xraA
  | .ora, .reg .b => .oraB | .ora, .reg .c => .oraC | .ora, .reg .d => .oraD | .ora, .reg .e => .oraE
  | .ora, .reg .h => .oraH | .ora, .reg .l => .oraL | .ora, .m => .oraM | .ora, .reg .a => .oraA
  | .cmp, .reg .b => .cmpB | .cmp, .reg .c => .cmpC | .cmp, .reg .d => .cmpD | .cmp, .reg .e => .cmpE
  | .cmp, .reg .h => .cmpH | .cmp, .reg .l => .cmpL | .cmp, .m => .cmpM | .cmp, .reg .a => .cmpA

/-- The ALU immediate forms (R92). -/
def mkAluImm : AluOp → Byte → Instr
  | .add, v => .adi v | .adc, v => .aci v | .sub, v => .sui v | .sbb, v => .sbi v
  | .ana, v => .ani v | .xra, v => .xri v | .ora, v => .ori v | .cmp, v => .cpi v

/-- LXI (R90). -/
def mkLxi : Pair → Word → Instr
  | .bc, v => .lxiB v | .de, v => .lxiD v | .hl, v => .lxiH v | .sp, v => .lxiSp v

/-- INX (R90). -/
def mkInx : Pair → Instr
  | .bc => .inxB | .de => .inxD | .hl => .inxH | .sp => .inxSp

/-- DCX (R90). -/
def mkDcx : Pair → Instr
  | .bc => .dcxB | .de => .dcxD | .hl => .dcxH | .sp => .dcxSp

/-- LDAX (R90). -/
def mkLdax : IndPair → Instr
  | .bc => .ldaxB | .de => .ldaxD

/-- STAX (R90). -/
def mkStax : IndPair → Instr
  | .bc => .staxB | .de => .staxD

/-- PUSH (R90). -/
def mkPush : StackPair → Instr
  | .bc => .pushB | .de => .pushD | .hl => .pushH | .psw => .pushPsw

/-- POP (R90). -/
def mkPop : StackPair → Instr
  | .bc => .popB | .de => .popD | .hl => .popH | .psw => .popPsw

/-- The conditional jumps (R91). -/
def mkJcc : Cond → Word → Instr
  | .nz, a => .jnz a | .z, a => .jz a | .nc, a => .jnc a | .c, a => .jc a
  | .po, a => .jpo a | .pe, a => .jpe a | .p, a => .jp a | .m, a => .jm a

/-- The conditional calls (R91). -/
def mkCcc : Cond → Word → Instr
  | .nz, a => .cnz a | .z, a => .cz a | .nc, a => .cnc a | .c, a => .cc a
  | .po, a => .cpo a | .pe, a => .cpe a | .p, a => .cp a | .m, a => .cm a

/-- The conditional returns (R91). -/
def mkRcc : Cond → Instr
  | .nz => .rnz | .z => .rz | .nc => .rnc | .c => .rc
  | .po => .rpo | .pe => .rpe | .p => .rp | .m => .rm

/-! ## Decoding -/

/-- The condition-keyed opcodes: bound, or undefined where the condition is unwired and the mode is `Unbound`
(44_control_transfer.md R201, R202). -/
def bindCond (mode : UnwiredCcMode) (op : Byte) (k : Cond) (i : Instr) : Instr :=
  if unwired k && mode == .unbound then .undefined op else i

/-- Opcodes `00......` (30_encoding.md R81, R88, R90, R92): the low field selects the family. -/
def decodeBlock0 (op lo : Byte) (w : Word) : Instr :=
  match (fieldLo op).toNat with
  | 0 => if fieldHi op = 0 then .nop else .undefined op
  | 1 => if op.getLsbD 3 then .undefined op else mkLxi (pairOf (fieldPair op)) w
  | 2 =>
    match (fieldHi op).toNat with
    | 0 => mkStax .bc | 1 => mkLdax .bc | 2 => mkStax .de | 3 => mkLdax .de
    | 4 => .shld w | 5 => .lhld w | 6 => .sta w | _ => .lda w
  | 3 => if op.getLsbD 3 then mkDcx (pairOf (fieldPair op)) else mkInx (pairOf (fieldPair op))
  | 4 => mkInr (locOf (fieldHi op))
  | 5 => mkDcr (locOf (fieldHi op))
  | 6 => mkMvi (locOf (fieldHi op)) lo
  | _ =>
    match (fieldHi op).toNat with
    | 0 => .rlc | 1 => .rrc | 2 => .ral | 3 => .rar | _ => .undefined op

/-- Opcodes `11......` (30_encoding.md R81, R90, R91, R92): the low field selects the family. -/
def decodeBlock3 (mode : UnwiredCcMode) (op lo : Byte) (w : Word) : Instr :=
  match (fieldLo op).toNat with
  | 0 => bindCond mode op (condOf (fieldHi op)) (mkRcc (condOf (fieldHi op)))
  | 1 =>
    if op.getLsbD 3 then (if fieldHi op = 1 then .ret else .undefined op)
    else mkPop (stackPairOf (fieldPair op))
  | 2 => bindCond mode op (condOf (fieldHi op)) (mkJcc (condOf (fieldHi op)) w)
  | 3 => if fieldHi op = 0 then .jmp w else if fieldHi op = 5 then .xchg else .undefined op
  | 4 => bindCond mode op (condOf (fieldHi op)) (mkCcc (condOf (fieldHi op)) w)
  | 5 =>
    if op.getLsbD 3 then (if fieldHi op = 1 then .call w else .undefined op)
    else mkPush (stackPairOf (fieldPair op))
  | 6 => mkAluImm (aluOf (fieldHi op)) lo
  | _ => .undefined op

/-- The instruction with opcode byte `op` and, where it has operand bytes, the first `lo` and the second `hi`: the 16-bit
operand is `hi:lo` (30_encoding.md R81, R84). -/
def decodeOp (mode : UnwiredCcMode) (op lo hi : Byte) : Instr :=
  match (op.extractLsb' 6 2).toNat with
  | 0 => decodeBlock0 op lo (mk16 hi lo)
  | 1 => mkMov (locOf (fieldHi op)) (locOf (fieldLo op))
  | 2 => mkAlu (aluOf (fieldHi op)) (locOf (fieldLo op))
  | _ => decodeBlock3 mode op lo (mk16 hi lo)

/-- The length of an instruction, which its opcode byte alone fixes (30_encoding.md R80, R83). -/
def opLength (mode : UnwiredCcMode) (op : Byte) : Nat :=
  match (op.extractLsb' 6 2).toNat with
  | 0 =>
    match (fieldLo op).toNat with
    | 1 => if op.getLsbD 3 then 1 else 3
    | 2 => if op.getLsbD 5 then 3 else 1
    | 6 => 2
    | _ => 1
  | 1 => 1
  | 2 => 1
  | _ =>
    match (fieldLo op).toNat with
    | 2 => if unwired (condOf (fieldHi op)) && mode == .unbound then 1 else 3
    | 3 => if fieldHi op = 0 then 3 else 1
    | 4 => if unwired (condOf (fieldHi op)) && mode == .unbound then 1 else 3
    | 5 => if fieldHi op = 1 then 3 else 1
    | 6 => 2
    | _ => 1

/-- Why a byte list is no instruction. -/
inductive DecodeError where
  /-- There is no opcode byte. -/
  | noByte
  /-- The list ends before the last operand byte of the instruction with opcode `op`. -/
  | truncated (op : Byte)
  deriving DecidableEq, Repr

/-- The first instruction of a byte list and the bytes after it. -/
def decode (mode : UnwiredCcMode) : List Byte → Except DecodeError (Instr × List Byte)
  | [] => .error .noByte
  | op :: rest =>
    if rest.length + 1 < opLength mode op then .error (.truncated op)
    else .ok (decodeOp mode op (rest.getD 0 0) (rest.getD 1 0), rest.drop (opLength mode op - 1))

/-! ## Encoding -/

/-- The bytes of an instruction in memory order: the opcode, then the operand, low byte first (30_encoding.md R84 and R87 to
R93; spec/opcode_table.json). -/
def encode (i : Instr) : List Byte :=
  match i with
  | .movBB => [0x40]
  | .movBC => [0x41]
  | .movBD => [0x42]
  | .movBE => [0x43]
  | .movBH => [0x44]
  | .movBL => [0x45]
  | .movBM => [0x46]
  | .movBA => [0x47]
  | .movCB => [0x48]
  | .movCC => [0x49]
  | .movCD => [0x4A]
  | .movCE => [0x4B]
  | .movCH => [0x4C]
  | .movCL => [0x4D]
  | .movCM => [0x4E]
  | .movCA => [0x4F]
  | .movDB => [0x50]
  | .movDC => [0x51]
  | .movDD => [0x52]
  | .movDE => [0x53]
  | .movDH => [0x54]
  | .movDL => [0x55]
  | .movDM => [0x56]
  | .movDA => [0x57]
  | .movEB => [0x58]
  | .movEC => [0x59]
  | .movED => [0x5A]
  | .movEE => [0x5B]
  | .movEH => [0x5C]
  | .movEL => [0x5D]
  | .movEM => [0x5E]
  | .movEA => [0x5F]
  | .movHB => [0x60]
  | .movHC => [0x61]
  | .movHD => [0x62]
  | .movHE => [0x63]
  | .movHH => [0x64]
  | .movHL => [0x65]
  | .movHM => [0x66]
  | .movHA => [0x67]
  | .movLB => [0x68]
  | .movLC => [0x69]
  | .movLD => [0x6A]
  | .movLE => [0x6B]
  | .movLH => [0x6C]
  | .movLL => [0x6D]
  | .movLM => [0x6E]
  | .movLA => [0x6F]
  | .movMB => [0x70]
  | .movMC => [0x71]
  | .movMD => [0x72]
  | .movME => [0x73]
  | .movMH => [0x74]
  | .movML => [0x75]
  | .movMA => [0x77]
  | .movAB => [0x78]
  | .movAC => [0x79]
  | .movAD => [0x7A]
  | .movAE => [0x7B]
  | .movAH => [0x7C]
  | .movAL => [0x7D]
  | .movAM => [0x7E]
  | .movAA => [0x7F]
  | .mviB v => [0x06, v]
  | .mviC v => [0x0E, v]
  | .mviD v => [0x16, v]
  | .mviE v => [0x1E, v]
  | .mviH v => [0x26, v]
  | .mviL v => [0x2E, v]
  | .mviM v => [0x36, v]
  | .mviA v => [0x3E, v]
  | .addB => [0x80]
  | .addC => [0x81]
  | .addD => [0x82]
  | .addE => [0x83]
  | .addH => [0x84]
  | .addL => [0x85]
  | .addM => [0x86]
  | .addA => [0x87]
  | .adcB => [0x88]
  | .adcC => [0x89]
  | .adcD => [0x8A]
  | .adcE => [0x8B]
  | .adcH => [0x8C]
  | .adcL => [0x8D]
  | .adcM => [0x8E]
  | .adcA => [0x8F]
  | .subB => [0x90]
  | .subC => [0x91]
  | .subD => [0x92]
  | .subE => [0x93]
  | .subH => [0x94]
  | .subL => [0x95]
  | .subM => [0x96]
  | .subA => [0x97]
  | .sbbB => [0x98]
  | .sbbC => [0x99]
  | .sbbD => [0x9A]
  | .sbbE => [0x9B]
  | .sbbH => [0x9C]
  | .sbbL => [0x9D]
  | .sbbM => [0x9E]
  | .sbbA => [0x9F]
  | .anaB => [0xA0]
  | .anaC => [0xA1]
  | .anaD => [0xA2]
  | .anaE => [0xA3]
  | .anaH => [0xA4]
  | .anaL => [0xA5]
  | .anaM => [0xA6]
  | .anaA => [0xA7]
  | .xraB => [0xA8]
  | .xraC => [0xA9]
  | .xraD => [0xAA]
  | .xraE => [0xAB]
  | .xraH => [0xAC]
  | .xraL => [0xAD]
  | .xraM => [0xAE]
  | .xraA => [0xAF]
  | .oraB => [0xB0]
  | .oraC => [0xB1]
  | .oraD => [0xB2]
  | .oraE => [0xB3]
  | .oraH => [0xB4]
  | .oraL => [0xB5]
  | .oraM => [0xB6]
  | .oraA => [0xB7]
  | .cmpB => [0xB8]
  | .cmpC => [0xB9]
  | .cmpD => [0xBA]
  | .cmpE => [0xBB]
  | .cmpH => [0xBC]
  | .cmpL => [0xBD]
  | .cmpM => [0xBE]
  | .cmpA => [0xBF]
  | .adi v => [0xC6, v]
  | .aci v => [0xCE, v]
  | .sui v => [0xD6, v]
  | .sbi v => [0xDE, v]
  | .ani v => [0xE6, v]
  | .xri v => [0xEE, v]
  | .ori v => [0xF6, v]
  | .cpi v => [0xFE, v]
  | .inrB => [0x04]
  | .inrC => [0x0C]
  | .inrD => [0x14]
  | .inrE => [0x1C]
  | .inrH => [0x24]
  | .inrL => [0x2C]
  | .inrM => [0x34]
  | .inrA => [0x3C]
  | .dcrB => [0x05]
  | .dcrC => [0x0D]
  | .dcrD => [0x15]
  | .dcrE => [0x1D]
  | .dcrH => [0x25]
  | .dcrL => [0x2D]
  | .dcrM => [0x35]
  | .dcrA => [0x3D]
  | .rlc => [0x07]
  | .rrc => [0x0F]
  | .ral => [0x17]
  | .rar => [0x1F]
  | .lxiB v => [0x01, loByte v, hiByte v]
  | .lxiD v => [0x11, loByte v, hiByte v]
  | .lxiH v => [0x21, loByte v, hiByte v]
  | .lxiSp v => [0x31, loByte v, hiByte v]
  | .ldaxB => [0x0A]
  | .ldaxD => [0x1A]
  | .staxB => [0x02]
  | .staxD => [0x12]
  | .inxB => [0x03]
  | .inxD => [0x13]
  | .inxH => [0x23]
  | .inxSp => [0x33]
  | .dcxB => [0x0B]
  | .dcxD => [0x1B]
  | .dcxH => [0x2B]
  | .dcxSp => [0x3B]
  | .pushB => [0xC5]
  | .pushD => [0xD5]
  | .pushH => [0xE5]
  | .pushPsw => [0xF5]
  | .popB => [0xC1]
  | .popD => [0xD1]
  | .popH => [0xE1]
  | .popPsw => [0xF1]
  | .jmp a => [0xC3, loByte a, hiByte a]
  | .jnz a => [0xC2, loByte a, hiByte a]
  | .jz a => [0xCA, loByte a, hiByte a]
  | .jnc a => [0xD2, loByte a, hiByte a]
  | .jc a => [0xDA, loByte a, hiByte a]
  | .jpo a => [0xE2, loByte a, hiByte a]
  | .jpe a => [0xEA, loByte a, hiByte a]
  | .jp a => [0xF2, loByte a, hiByte a]
  | .jm a => [0xFA, loByte a, hiByte a]
  | .call a => [0xCD, loByte a, hiByte a]
  | .cnz a => [0xC4, loByte a, hiByte a]
  | .cz a => [0xCC, loByte a, hiByte a]
  | .cnc a => [0xD4, loByte a, hiByte a]
  | .cc a => [0xDC, loByte a, hiByte a]
  | .cpo a => [0xE4, loByte a, hiByte a]
  | .cpe a => [0xEC, loByte a, hiByte a]
  | .cp a => [0xF4, loByte a, hiByte a]
  | .cm a => [0xFC, loByte a, hiByte a]
  | .ret => [0xC9]
  | .rnz => [0xC0]
  | .rz => [0xC8]
  | .rnc => [0xD0]
  | .rc => [0xD8]
  | .rpo => [0xE0]
  | .rpe => [0xE8]
  | .rp => [0xF0]
  | .rm => [0xF8]
  | .nop => [0x00]
  | .hlt => [0x76]
  | .lda a => [0x3A, loByte a, hiByte a]
  | .sta a => [0x32, loByte a, hiByte a]
  | .lhld a => [0x2A, loByte a, hiByte a]
  | .shld a => [0x22, loByte a, hiByte a]
  | .xchg => [0xEB]
  | .undefined op => [op]

/-! ## The numbering of spec/opcode_table.json -/

/-- The three bytes, in memory order, of an instruction whose bits are `w`, bit 0 being the least significant bit of the first
byte, when every bit from `nbits` up is 0. -/
def tableBytes (nbits w : Nat) : List Byte :=
  let v := w % 2 ^ nbits
  [BitVec.ofNat 8 v, BitVec.ofNat 8 (v / 256), BitVec.ofNat 8 (v / 65536)]

/-- What the decoder reads from an instruction numbered as the opcode table numbers it. The table is the map of the default
mode (30_encoding.md R94; log 17). -/
def decodeTableWord (nbits w : Nat) : Option Instr :=
  match decode .boundNeverTransfer (tableBytes nbits w) with
  | .ok (i, _) => some i
  | .error _ => none

end Sys2Proof
end

