-- ==== Sys2Proof/Machine/State.lean ====
section
/-! DEFINITION. The machine state as plain data (10_state.md R20 to R43), the inspector port's commands and replies
(60_exceptions.md R261 to R272), and the state after reset (10_state.md R43, 70_reset_and_hazards.md R290). -/

namespace Sys2Proof.Machine

/-- The sequencer's state (10_state.md R39). -/
inductive Phase where
  | running | halted | outOfBounds
  deriving DecidableEq, Repr

/-- One record of the report stream: `UndefinedOpcode(addr, byte)` (10_state.md R41). -/
structure Report where
  addr : Word
  byte : Byte
  deriving DecidableEq, Repr

/-- The commands of the inspector port (60_exceptions.md R262 to R272). Register numbers, pair numbers and addresses are
unbounded naturals so that one out of range can be given; a flag argument of `none` is a name that is none of the five
(R261, R266; log 13). -/
inductive Command where
  | readReg (id : Nat)
  | writeReg (id : Nat) (v : Byte)
  | readPair (q : Nat)
  | writePair (q : Nat) (v : Word)
  | readF
  | writeF (v : Byte)
  | readFlag (n : Option Flag)
  | writeFlag (n : Option Flag) (v : Bool)
  | readPC
  | writePC (v : Word)
  | readSP
  | writeSP (v : Word)
  | readMem (addr : Nat)
  | writeMem (addr : Nat) (v : Byte)
  | readRunning
  | writeRunning (v : Bool)
  | readThrottle
  | writeThrottle (t : Nat)
  | dumpState
  | terminate
  deriving DecidableEq, Repr

/-- The failure replies of the port (60_exceptions.md R252, R261). -/
inductive PortFailure where
  | invalidRegister | invalidPair | invalidAddress
  deriving DecidableEq, Repr

/-- What the dump command reads (60_exceptions.md R271). -/
structure Dump where
  pc : Word
  sp : Word
  a : Byte
  b : Byte
  c : Byte
  d : Byte
  e : Byte
  h : Byte
  l : Byte
  flagS : Bool
  flagZ : Bool
  flagAC : Bool
  flagP : Bool
  flagCY : Bool
  port2000 : Byte
  port3000 : Byte
  deriving DecidableEq, Repr

/-- The reply to a command: nothing, the value read, or a failure (60_exceptions.md R261). -/
inductive Reply where
  | done
  | byte (v : Byte)
  | word (v : Word)
  | bool (v : Bool)
  | nat (n : Nat)
  | dump (v : Dump)
  | failed (why : PortFailure)
  deriving DecidableEq, Repr

/-- One choice of the interleaving oracle: the next step is a sequencer cycle or this inspector command
(60_exceptions.md R260, R277). -/
inductive Turn where
  | cycle
  | command (c : Command)
  deriving DecidableEq, Repr

/-- The address space: the bytes that are not zero, by address. An address it does not list reads as 0x00, the value of every
byte nothing has written (20_memory.md R52, 10_state.md R43). -/
abbrev Memory := List Host.Cell

/-- The one canonical form of a memory: addresses strictly rising and below 65536, no zero byte listed. -/
abbrev Memory.wf (m : Memory) : Prop :=
  m.Pairwise (fun x y => x.1 < y.1) ∧ ∀ x ∈ m, x.1 < 65536 ∧ x.2 ≠ 0

/-- The machine state. -/
structure State where
  /-- The seven registers (10_state.md R20, R21). -/
  b : Byte
  c : Byte
  d : Byte
  e : Byte
  h : Byte
  l : Byte
  a : Byte
  /-- The flag byte `F` (R27). -/
  f : Byte
  /-- R32 -/
  pc : Word
  /-- R35 -/
  sp : Word
  /-- R38 -/
  running : Bool
  /-- R39 -/
  phase : Phase
  /-- R40: read and written by the inspector; no other rule depends on it. -/
  throttle : Nat
  /-- R41, oldest first -/
  reports : List Report
  /-- 20_memory.md R50 -/
  mem : Memory
  /-- The configuration inputs, fixed before reset (00_scope.md R9, 10_state.md R44; log 1). -/
  cfg : Config
  /-- `inspector_done`, the inspector agent's own flag (60_exceptions.md R272). -/
  inspectorDone : Bool
  /-- DESIGN CHOICE (log 4): the interleaving oracle's coming choices (R277); after the last one only cycles follow. -/
  schedule : List Turn
  /-- DESIGN CHOICE (log 5): what the inspector port has replied, oldest first (R261). -/
  replies : List Reply
  deriving DecidableEq, Repr

/-- Why the machine stops with a fault: never. No cycle and no command faults (40_fetch_execute.md R120,
60_exceptions.md R250), so there is no constructor (log 8, safe). -/
inductive Fault where
  deriving DecidableEq, Repr

/-- Why the model gives no next state. No step refuses: only the construction of an initial state does. -/
inductive Refusal where
  /-- An instruction without a meaning, rejected in `exec`'s arm; no arm answers it (safe). -/
  | notModelled (mnemonic : String)
  /-- `ImageTooLarge`, raised by `State.boot`: the core is never entered (70_reset_and_hazards.md R293; safe). -/
  | imageTooLarge
  /-- `ImageUnreadable`, raised by `State.boot`: the core is never entered (70_reset_and_hazards.md R293; safe). -/
  | imageUnreadable
  deriving DecidableEq, Repr

/-- The result of a step or of a meaning. -/
abbrev Res := Host.Outcome State Fault Refusal

/-- The state after reset with no image loaded, and with the inspector's coming turns given (10_state.md R43,
70_reset_and_hazards.md R290). -/
def State.resetWith (cfg : Config) (schedule : List Turn) : State :=
  { b := 0, c := 0, d := 0, e := 0, h := 0, l := 0, a := 0, f := 0
    pc := cfg.loadAddr, sp := cfg.spReset
    running := true, phase := .running, throttle := 0, reports := [], mem := []
    cfg := cfg, inspectorDone := false, schedule := schedule, replies := [] }

/-- The state after reset in the standard configuration, with the empty image and no inspector command to come
(logs 2, 3, 14). -/
def State.reset : State := State.resetWith Config.standard []

end Sys2Proof.Machine
end

