-- ==== Sys2Proof/Machine/Ops.lean ====
section
/-! DEFINITION. The named operations over memory and over the registers that are not operands. The core takes no exception
(60_exceptions.md R250, R254, R255), so there is no operation that enters or leaves one: the one condition an instruction can
raise is a record of the report stream (40_fetch_execute.md R113), `State.report`. -/

namespace Sys2Proof.Machine

/-! ## Memory -/

/-- The byte at an address; an address not listed reads 0x00 (20_memory.md R52). -/
def Memory.read : Memory → Nat → Byte
  | [], _ => 0
  | x :: rest, addr => if x.1 = addr then x.2 else Memory.read rest addr

/-- The memory in which `addr` is not listed. -/
def Memory.erase (m : Memory) (addr : Nat) : Memory :=
  m.filter (fun x => x.1 != addr)

/-- A cell put before the first cell of a higher address. -/
def Memory.insert (x : Host.Cell) : Memory → Memory
  | [] => [x]
  | y :: rest => if x.1 < y.1 then x :: y :: rest else y :: Memory.insert x rest

/-- `memory[addr] <- v` (20_memory.md R53), in canonical form. -/
def Memory.write (m : Memory) (addr : Nat) (v : Byte) : Memory :=
  if v = 0 then m.erase addr else Memory.insert (addr, v) (m.erase addr)

/-- `MemRead(addr, 1)` (20_memory.md R51, R52). -/
def State.read8 (s : State) (addr : Word) : Byte := s.mem.read addr.toNat

/-- `MemWrite(addr, 1, v)` (20_memory.md R51, R53). -/
def State.write8 (s : State) (addr : Word) (v : Byte) : State :=
  { s with mem := s.mem.write addr.toNat v }

/-- `MemRead16(addr)`: low byte first, the second address modulo 65536 (20_memory.md R54). -/
def State.read16 (s : State) (addr : Word) : Word :=
  mk16 (s.read8 (addr + 1)) (s.read8 addr)

/-- `MemWrite16(addr, v)` (20_memory.md R55). -/
def State.write16 (s : State) (addr : Word) (v : Word) : State :=
  (s.write8 addr (loByte v)).write8 (addr + 1) (hiByte v)

/-- Bytes stored in order from `addr` on, modulo 65536. -/
def State.storeBytes (s : State) (addr : Word) : List Byte → State
  | [] => s
  | v :: rest => (s.write8 addr v).storeBytes (addr + 1) rest

/-! ## Program counter, running flag, reports -/

/-- `pc` past `n` instruction bytes, modulo 65536 (10_state.md R32, R33). -/
def State.advance (s : State) (n : Word) : State := { s with pc := s.pc + n }

/-- `pc <- v` (10_state.md R32). -/
def State.setPc (s : State) (v : Word) : State := { s with pc := v }

/-- `running <- v` (10_state.md R38). -/
def State.setRunning (s : State) (v : Bool) : State := { s with running := v }

/-- `report UndefinedOpcode(addr, byte)` (40_fetch_execute.md R113). -/
def State.report (s : State) (addr : Word) (byte : Byte) : State :=
  { s with reports := s.reports ++ [{ addr := addr, byte := byte }] }

/-! ## Stack (43_register_pair.md R180) -/

/-- `sp <- v` (10_state.md R35). -/
def State.setSp (s : State) (v : Word) : State := { s with sp := v }

/-- One byte pushed: `sp` decremented, then the byte stored at it. -/
def State.push8 (s : State) (v : Byte) : State :=
  (s.setSp (s.sp - 1)).write8 (s.sp - 1) v

/-- `push16(v)`: the high byte, then the low byte at the lower address. -/
def State.push16 (s : State) (v : Word) : State :=
  (s.push8 (hiByte v)).push8 (loByte v)

/-- One byte popped: the byte at `sp`, and the state with `sp` incremented. -/
def State.pop8 (s : State) : Byte × State :=
  (s.read8 s.sp, s.setSp (s.sp + 1))

/-- `pop16()`: the low byte, then the high byte. -/
def State.pop16 (s : State) : Word × State :=
  (mk16 s.pop8.2.pop8.1 s.pop8.1, s.pop8.2.pop8.2)

end Sys2Proof.Machine
end

