-- ==== Sys2Proof/Machine/Operands.lean ====
section
/-! DEFINITION. Every operand form: registers, `M`, and the register-pair views (10_state.md R21 to R26, R31). -/

namespace Sys2Proof.Machine

/-- `R[r]` (10_state.md R21). -/
def State.reg (s : State) : Reg → Byte
  | .b => s.b | .c => s.c | .d => s.d | .e => s.e | .h => s.h | .l => s.l | .a => s.a

/-- `R[r] <- v` (10_state.md R21). -/
def State.setReg (s : State) (r : Reg) (v : Byte) : State :=
  match r with
  | .b => { s with b := v }
  | .c => { s with c := v }
  | .d => { s with d := v }
  | .e => { s with e := v }
  | .h => { s with h := v }
  | .l => { s with l := v }
  | .a => { s with a := v }

/-- `F <- v`, all 8 bits (10_state.md R28). -/
def State.setF (s : State) (v : Byte) : State := { s with f := v }

/-- The address of `M`: H:L (10_state.md R23). -/
def State.mAddr (s : State) : Word := mk16 s.h s.l

/-- `operand(id)` (10_state.md R23). -/
def State.operand (s : State) : Loc → Byte
  | .reg r => s.reg r
  | .m => s.read8 s.mAddr

/-- `set_operand(id, v)` (10_state.md R23). -/
def State.setOperand (s : State) (x : Loc) (v : Byte) : State :=
  match x with
  | .reg r => s.setReg r v
  | .m => s.write8 s.mAddr v

/-- `RP(p)` for LXI, INX and DCX (10_state.md R24). -/
def State.pair (s : State) : Pair → Word
  | .bc => mk16 s.b s.c
  | .de => mk16 s.d s.e
  | .hl => mk16 s.h s.l
  | .sp => s.sp

/-- `RP(p) <- v` for LXI, INX and DCX (10_state.md R24). -/
def State.setPair (s : State) (p : Pair) (v : Word) : State :=
  match p with
  | .bc => (s.setReg .b (hiByte v)).setReg .c (loByte v)
  | .de => (s.setReg .d (hiByte v)).setReg .e (loByte v)
  | .hl => (s.setReg .h (hiByte v)).setReg .l (loByte v)
  | .sp => s.setSp v

/-- `RP(p)` for LDAX and STAX (10_state.md R24, R25). -/
def State.indPair (s : State) : IndPair → Word
  | .bc => s.pair .bc
  | .de => s.pair .de

/-- `RP(p)` for PUSH and POP: PSW is A:F (10_state.md R24, R31). -/
def State.stackPair (s : State) : StackPair → Word
  | .bc => s.pair .bc
  | .de => s.pair .de
  | .hl => s.pair .hl
  | .psw => mk16 s.a s.f

/-- `RP(p) <- v` for PUSH and POP: PSW writes A and all 8 bits of F (10_state.md R24; 43_register_pair.md R188). -/
def State.setStackPair (s : State) (p : StackPair) (v : Word) : State :=
  match p with
  | .bc => s.setPair .bc v
  | .de => s.setPair .de v
  | .hl => s.setPair .hl v
  | .psw => (s.setReg .a (hiByte v)).setF (loByte v)

end Sys2Proof.Machine
end

