-- ==== Sys2Proof/Machine/Flags.lean ====
section
/-! DEFINITION. The flag byte, Flag Computation (42_alu.md R140) and the conditions (44_control_transfer.md R200). -/

namespace Sys2Proof.Machine

/-- The bit of `F` that holds a flag (10_state.md R27). -/
def flagBit : Flag → Nat
  | .cy => 0 | .p => 2 | .ac => 4 | .z => 6 | .s => 7

/-- A byte with one bit set to `v`. -/
def setBit (x : Byte) (i : Nat) (v : Bool) : Byte :=
  if v then x ||| ((1 : Byte) <<< i) else x &&& ~~~((1 : Byte) <<< i)

/-- `F.n` -/
def State.flag (s : State) (n : Flag) : Bool := s.f.getLsbD (flagBit n)

/-- `F.n <- v`, the other bits unchanged. -/
def State.setFlag (s : State) (n : Flag) (v : Bool) : State := s.setF (setBit s.f (flagBit n) v)

/-- `popcount(v)` (00_scope.md R11). -/
def popcount (v : Byte) : Nat :=
  (v.getLsbD 0).toNat + (v.getLsbD 1).toNat + (v.getLsbD 2).toNat + (v.getLsbD 3).toNat
    + (v.getLsbD 4).toNat + (v.getLsbD 5).toNat + (v.getLsbD 6).toNat + (v.getLsbD 7).toNat

/-- The categories of Flag Computation (42_alu.md R140). -/
inductive Category where
  | arithmetic | logical | incrementOrDecrement
  deriving DecidableEq, Repr

/-- CY after Flag Computation (42_alu.md R140). -/
def carryAfter (r : Word) (cat : Category) (before : Bool) : Bool :=
  match cat with
  | .arithmetic => r.getLsbD 8
  | .logical => false
  | .incrementOrDecrement => before

/-- `FlagCompute(r, cat)`: Z, S and P from the low byte, CY by category; AC and bits 1, 3, 5 keep their values (42_alu.md
R140, R141). -/
def State.flagCompute (s : State) (r : Word) (cat : Category) : State :=
  let lo := loByte r
  (((s.setFlag .z (lo == 0)).setFlag .s (lo.getLsbD 7)).setFlag .p (popcount lo % 2 == 0)).setFlag .cy
    (carryAfter r cat (s.flag .cy))

/-- `cond(ccc)`: the four wired predicates; an unwired condition is false whatever `F` holds (44_control_transfer.md R200,
R201). -/
def State.cond (s : State) : Cond → Bool
  | .nz => !s.flag .z
  | .z => s.flag .z
  | .nc => !s.flag .cy
  | .c => s.flag .cy
  | .po | .pe | .p | .m => false

end Sys2Proof.Machine
end

