-- ==== Sys2Proof/Machine/Alu.lean ====
section
/-! DEFINITION. The ALU in its register and immediate forms, INR, DCR and the rotates (42_alu.md R142 to R165). -/

namespace Sys2Proof.Machine

/-- The 16-bit result of an ALU operation on `a`, `v` and the carry-in (R142). Subtraction is modulo 65536. -/
def aluResult (op : AluOp) (a v : Byte) (cy : Bool) : Word :=
  let x : Word := a.setWidth 16
  let y : Word := v.setWidth 16
  let k : Word := if cy then 1 else 0
  match op with
  | .add => x + y
  | .adc => x + y + k
  | .sub => x - y
  | .sbb => x - y - k
  | .ana => x &&& y
  | .xra => x ^^^ y
  | .ora => x ||| y
  | .cmp => x - y

/-- The flag category of an ALU operation (R142). -/
def aluCategory : AluOp → Category
  | .add | .adc | .sub | .sbb | .cmp => .arithmetic
  | .ana | .xra | .ora => .logical

/-- The shared ALU step: A receives the low byte of the result, except in CMP; then Flag Computation (R142). -/
def alu (op : AluOp) (v : Byte) (s : State) : State :=
  let r := aluResult op s.a v (s.flag .cy)
  let s := if op = .cmp then s else s.setReg .a (loByte r)
  s.flagCompute r (aluCategory op)

/-- A register-or-memory ALU instruction (R143 to R150). -/
def aluLoc (op : AluOp) (src : Loc) (s : State) : State :=
  let s := s.advance 1
  alu op (s.operand src) s

/-- An immediate ALU instruction (R151 to R158). -/
def aluImm (op : AluOp) (v : Byte) (s : State) : State :=
  alu op v (s.advance 2)

/-- INR d (R159). -/
def inr (dst : Loc) (s : State) : State :=
  let s := s.advance 1
  let r : Word := (s.operand dst).setWidth 16 + 1
  (s.setOperand dst (loByte r)).flagCompute r .incrementOrDecrement

/-- DCR d (R160). -/
def dcr (dst : Loc) (s : State) : State :=
  let s := s.advance 1
  let r : Word := (s.operand dst).setWidth 16 - 1
  (s.setOperand dst (loByte r)).flagCompute r .incrementOrDecrement

/-- A rotate: A and CY receive the rotated value and the bit that left it; no other flag is written (R161). -/
def rotate (result : Byte) (carry : Bool) (s : State) : State :=
  ((s.advance 1).setReg .a result).setFlag .cy carry

/-- RLC: bit 7 moves to bit 0 and to CY (R162). -/
def rlc (s : State) : State :=
  rotate (s.a.extractLsb' 0 7 ++ s.a.extractLsb' 7 1) (s.a.getLsbD 7) s

/-- RRC: bit 0 moves to bit 7 and to CY (R163). -/
def rrc (s : State) : State :=
  rotate (s.a.extractLsb' 0 1 ++ s.a.extractLsb' 1 7) (s.a.getLsbD 0) s

/-- RAL: CY moves to bit 0 and bit 7 to CY (R164). -/
def ral (s : State) : State :=
  rotate (s.a.extractLsb' 0 7 ++ BitVec.ofBool (s.flag .cy)) (s.a.getLsbD 7) s

/-- RAR: CY moves to bit 7 and bit 0 to CY (R165). -/
def rar (s : State) : State :=
  rotate (BitVec.ofBool (s.flag .cy) ++ s.a.extractLsb' 1 7) (s.a.getLsbD 0) s

/-! ## The register-or-memory forms -/

/-- ADD B (R143). -/
def execAddB (s : State) : Res := .next (aluLoc .add (.reg .b) s)

/-- ADD C (R143). -/
def execAddC (s : State) : Res := .next (aluLoc .add (.reg .c) s)

/-- ADD D (R143). -/
def execAddD (s : State) : Res := .next (aluLoc .add (.reg .d) s)

/-- ADD E (R143). -/
def execAddE (s : State) : Res := .next (aluLoc .add (.reg .e) s)

/-- ADD H (R143). -/
def execAddH (s : State) : Res := .next (aluLoc .add (.reg .h) s)

/-- ADD L (R143). -/
def execAddL (s : State) : Res := .next (aluLoc .add (.reg .l) s)

/-- ADD M (R143). -/
def execAddM (s : State) : Res := .next (aluLoc .add .m s)

/-- ADD A (R143). -/
def execAddA (s : State) : Res := .next (aluLoc .add (.reg .a) s)

/-- ADC B (R144). -/
def execAdcB (s : State) : Res := .next (aluLoc .adc (.reg .b) s)

/-- ADC C (R144). -/
def execAdcC (s : State) : Res := .next (aluLoc .adc (.reg .c) s)

/-- ADC D (R144). -/
def execAdcD (s : State) : Res := .next (aluLoc .adc (.reg .d) s)

/-- ADC E (R144). -/
def execAdcE (s : State) : Res := .next (aluLoc .adc (.reg .e) s)

/-- ADC H (R144). -/
def execAdcH (s : State) : Res := .next (aluLoc .adc (.reg .h) s)

/-- ADC L (R144). -/
def execAdcL (s : State) : Res := .next (aluLoc .adc (.reg .l) s)

/-- ADC M (R144). -/
def execAdcM (s : State) : Res := .next (aluLoc .adc .m s)

/-- ADC A (R144). -/
def execAdcA (s : State) : Res := .next (aluLoc .adc (.reg .a) s)

/-- SUB B (R145). -/
def execSubB (s : State) : Res := .next (aluLoc .sub (.reg .b) s)

/-- SUB C (R145). -/
def execSubC (s : State) : Res := .next (aluLoc .sub (.reg .c) s)

/-- SUB D (R145). -/
def execSubD (s : State) : Res := .next (aluLoc .sub (.reg .d) s)

/-- SUB E (R145). -/
def execSubE (s : State) : Res := .next (aluLoc .sub (.reg .e) s)

/-- SUB H (R145). -/
def execSubH (s : State) : Res := .next (aluLoc .sub (.reg .h) s)

/-- SUB L (R145). -/
def execSubL (s : State) : Res := .next (aluLoc .sub (.reg .l) s)

/-- SUB M (R145). -/
def execSubM (s : State) : Res := .next (aluLoc .sub .m s)

/-- SUB A (R145). -/
def execSubA (s : State) : Res := .next (aluLoc .sub (.reg .a) s)

/-- SBB B (R146). -/
def execSbbB (s : State) : Res := .next (aluLoc .sbb (.reg .b) s)

/-- SBB C (R146). -/
def execSbbC (s : State) : Res := .next (aluLoc .sbb (.reg .c) s)

/-- SBB D (R146). -/
def execSbbD (s : State) : Res := .next (aluLoc .sbb (.reg .d) s)

/-- SBB E (R146). -/
def execSbbE (s : State) : Res := .next (aluLoc .sbb (.reg .e) s)

/-- SBB H (R146). -/
def execSbbH (s : State) : Res := .next (aluLoc .sbb (.reg .h) s)

/-- SBB L (R146). -/
def execSbbL (s : State) : Res := .next (aluLoc .sbb (.reg .l) s)

/-- SBB M (R146). -/
def execSbbM (s : State) : Res := .next (aluLoc .sbb .m s)

/-- SBB A (R146). -/
def execSbbA (s : State) : Res := .next (aluLoc .sbb (.reg .a) s)

/-- ANA B (R147). -/
def execAnaB (s : State) : Res := .next (aluLoc .ana (.reg .b) s)

/-- ANA C (R147). -/
def execAnaC (s : State) : Res := .next (aluLoc .ana (.reg .c) s)

/-- ANA D (R147). -/
def execAnaD (s : State) : Res := .next (aluLoc .ana (.reg .d) s)

/-- ANA E (R147). -/
def execAnaE (s : State) : Res := .next (aluLoc .ana (.reg .e) s)

/-- ANA H (R147). -/
def execAnaH (s : State) : Res := .next (aluLoc .ana (.reg .h) s)

/-- ANA L (R147). -/
def execAnaL (s : State) : Res := .next (aluLoc .ana (.reg .l) s)

/-- ANA M (R147). -/
def execAnaM (s : State) : Res := .next (aluLoc .ana .m s)

/-- ANA A (R147). -/
def execAnaA (s : State) : Res := .next (aluLoc .ana (.reg .a) s)

/-- XRA B (R148). -/
def execXraB (s : State) : Res := .next (aluLoc .xra (.reg .b) s)

/-- XRA C (R148). -/
def execXraC (s : State) : Res := .next (aluLoc .xra (.reg .c) s)

/-- XRA D (R148). -/
def execXraD (s : State) : Res := .next (aluLoc .xra (.reg .d) s)

/-- XRA E (R148). -/
def execXraE (s : State) : Res := .next (aluLoc .xra (.reg .e) s)

/-- XRA H (R148). -/
def execXraH (s : State) : Res := .next (aluLoc .xra (.reg .h) s)

/-- XRA L (R148). -/
def execXraL (s : State) : Res := .next (aluLoc .xra (.reg .l) s)

/-- XRA M (R148). -/
def execXraM (s : State) : Res := .next (aluLoc .xra .m s)

/-- XRA A (R148). -/
def execXraA (s : State) : Res := .next (aluLoc .xra (.reg .a) s)

/-- ORA B (R149). -/
def execOraB (s : State) : Res := .next (aluLoc .ora (.reg .b) s)

/-- ORA C (R149). -/
def execOraC (s : State) : Res := .next (aluLoc .ora (.reg .c) s)

/-- ORA D (R149). -/
def execOraD (s : State) : Res := .next (aluLoc .ora (.reg .d) s)

/-- ORA E (R149). -/
def execOraE (s : State) : Res := .next (aluLoc .ora (.reg .e) s)

/-- ORA H (R149). -/
def execOraH (s : State) : Res := .next (aluLoc .ora (.reg .h) s)

/-- ORA L (R149). -/
def execOraL (s : State) : Res := .next (aluLoc .ora (.reg .l) s)

/-- ORA M (R149). -/
def execOraM (s : State) : Res := .next (aluLoc .ora .m s)

/-- ORA A (R149). -/
def execOraA (s : State) : Res := .next (aluLoc .ora (.reg .a) s)

/-- CMP B (R150). -/
def execCmpB (s : State) : Res := .next (aluLoc .cmp (.reg .b) s)

/-- CMP C (R150). -/
def execCmpC (s : State) : Res := .next (aluLoc .cmp (.reg .c) s)

/-- CMP D (R150). -/
def execCmpD (s : State) : Res := .next (aluLoc .cmp (.reg .d) s)

/-- CMP E (R150). -/
def execCmpE (s : State) : Res := .next (aluLoc .cmp (.reg .e) s)

/-- CMP H (R150). -/
def execCmpH (s : State) : Res := .next (aluLoc .cmp (.reg .h) s)

/-- CMP L (R150). -/
def execCmpL (s : State) : Res := .next (aluLoc .cmp (.reg .l) s)

/-- CMP M (R150). -/
def execCmpM (s : State) : Res := .next (aluLoc .cmp .m s)

/-- CMP A (R150). -/
def execCmpA (s : State) : Res := .next (aluLoc .cmp (.reg .a) s)

/-! ## The immediate forms -/

/-- ADI d8 (R151). -/
def execAdi (v : Byte) (s : State) : Res := .next (aluImm .add v s)

/-- ACI d8 (R152). -/
def execAci (v : Byte) (s : State) : Res := .next (aluImm .adc v s)

/-- SUI d8 (R153). -/
def execSui (v : Byte) (s : State) : Res := .next (aluImm .sub v s)

/-- SBI d8 (R154). -/
def execSbi (v : Byte) (s : State) : Res := .next (aluImm .sbb v s)

/-- ANI d8 (R155). -/
def execAni (v : Byte) (s : State) : Res := .next (aluImm .ana v s)

/-- XRI d8 (R156). -/
def execXri (v : Byte) (s : State) : Res := .next (aluImm .xra v s)

/-- ORI d8 (R157). -/
def execOri (v : Byte) (s : State) : Res := .next (aluImm .ora v s)

/-- CPI d8 (R158). -/
def execCpi (v : Byte) (s : State) : Res := .next (aluImm .cmp v s)

/-! ## INR and DCR -/

/-- INR B (R159). -/
def execInrB (s : State) : Res := .next (inr (.reg .b) s)

/-- INR C (R159). -/
def execInrC (s : State) : Res := .next (inr (.reg .c) s)

/-- INR D (R159). -/
def execInrD (s : State) : Res := .next (inr (.reg .d) s)

/-- INR E (R159). -/
def execInrE (s : State) : Res := .next (inr (.reg .e) s)

/-- INR H (R159). -/
def execInrH (s : State) : Res := .next (inr (.reg .h) s)

/-- INR L (R159). -/
def execInrL (s : State) : Res := .next (inr (.reg .l) s)

/-- INR M (R159). -/
def execInrM (s : State) : Res := .next (inr .m s)

/-- INR A (R159). -/
def execInrA (s : State) : Res := .next (inr (.reg .a) s)

/-- DCR B (R160). -/
def execDcrB (s : State) : Res := .next (dcr (.reg .b) s)

/-- DCR C (R160). -/
def execDcrC (s : State) : Res := .next (dcr (.reg .c) s)

/-- DCR D (R160). -/
def execDcrD (s : State) : Res := .next (dcr (.reg .d) s)

/-- DCR E (R160). -/
def execDcrE (s : State) : Res := .next (dcr (.reg .e) s)

/-- DCR H (R160). -/
def execDcrH (s : State) : Res := .next (dcr (.reg .h) s)

/-- DCR L (R160). -/
def execDcrL (s : State) : Res := .next (dcr (.reg .l) s)

/-- DCR M (R160). -/
def execDcrM (s : State) : Res := .next (dcr .m s)

/-- DCR A (R160). -/
def execDcrA (s : State) : Res := .next (dcr (.reg .a) s)

/-! ## The rotates -/

/-- RLC (R162). -/
def execRlc (s : State) : Res := .next (rlc s)

/-- RRC (R163). -/
def execRrc (s : State) : Res := .next (rrc s)

/-- RAL (R164). -/
def execRal (s : State) : Res := .next (ral s)

/-- RAR (R165). -/
def execRar (s : State) : Res := .next (rar s)

end Sys2Proof.Machine
end

