-- ==== Sys2Proof/Machine/Control.lean ====
section
/-! DEFINITION. Jumps, calls and returns (44_control_transfer.md R200 to R229). None writes F. -/

namespace Sys2Proof.Machine

/-- The jumps: `pc` passes the whole instruction, then receives the target where the condition holds (R203 to R211). -/
def jump (taken : Bool) (a : Word) (s : State) : State :=
  let s := s.advance 3
  if taken then s.setPc a else s

/-- The calls: the return address is the address after the operand bytes (R212 to R220). -/
def callTo (taken : Bool) (a : Word) (s : State) : State :=
  let s := s.advance 3
  if taken then (s.push16 s.pc).setPc a else s

/-- The returns (R221 to R229). -/
def ret (taken : Bool) (s : State) : State :=
  let s := s.advance 1
  if taken then s.pop16.2.setPc s.pop16.1 else s

/-! ## Jumps -/

/-- JMP a16 (R203). -/
def execJmp (a : Word) (s : State) : Res := .next (jump true a s)

/-! ## Conditional jumps -/

/-- JNZ a16 (R204). -/
def execJnz (a : Word) (s : State) : Res := .next (jump (s.cond .nz) a s)

/-- JZ a16 (R205). -/
def execJz (a : Word) (s : State) : Res := .next (jump (s.cond .z) a s)

/-- JNC a16 (R206). -/
def execJnc (a : Word) (s : State) : Res := .next (jump (s.cond .nc) a s)

/-- JC a16 (R207). -/
def execJc (a : Word) (s : State) : Res := .next (jump (s.cond .c) a s)

/-- JPO a16 (R208). -/
def execJpo (a : Word) (s : State) : Res := .next (jump (s.cond .po) a s)

/-- JPE a16 (R209). -/
def execJpe (a : Word) (s : State) : Res := .next (jump (s.cond .pe) a s)

/-- JP a16 (R210). -/
def execJp (a : Word) (s : State) : Res := .next (jump (s.cond .p) a s)

/-- JM a16 (R211). -/
def execJm (a : Word) (s : State) : Res := .next (jump (s.cond .m) a s)

/-! ## Calls -/

/-- CALL a16 (R212). -/
def execCall (a : Word) (s : State) : Res := .next (callTo true a s)

/-! ## Conditional calls -/

/-- CNZ a16 (R213). -/
def execCnz (a : Word) (s : State) : Res := .next (callTo (s.cond .nz) a s)

/-- CZ a16 (R214). -/
def execCz (a : Word) (s : State) : Res := .next (callTo (s.cond .z) a s)

/-- CNC a16 (R215). -/
def execCnc (a : Word) (s : State) : Res := .next (callTo (s.cond .nc) a s)

/-- CC a16 (R216). -/
def execCc (a : Word) (s : State) : Res := .next (callTo (s.cond .c) a s)

/-- CPO a16 (R217). -/
def execCpo (a : Word) (s : State) : Res := .next (callTo (s.cond .po) a s)

/-- CPE a16 (R218). -/
def execCpe (a : Word) (s : State) : Res := .next (callTo (s.cond .pe) a s)

/-- CP a16 (R219). -/
def execCp (a : Word) (s : State) : Res := .next (callTo (s.cond .p) a s)

/-- CM a16 (R220). -/
def execCm (a : Word) (s : State) : Res := .next (callTo (s.cond .m) a s)

/-! ## Returns -/

/-- RET (R221). -/
def execRet (s : State) : Res := .next (ret true s)

/-! ## Conditional returns -/

/-- RNZ (R222). -/
def execRnz (s : State) : Res := .next (ret (s.cond .nz) s)

/-- RZ (R223). -/
def execRz (s : State) : Res := .next (ret (s.cond .z) s)

/-- RNC (R224). -/
def execRnc (s : State) : Res := .next (ret (s.cond .nc) s)

/-- RC (R225). -/
def execRc (s : State) : Res := .next (ret (s.cond .c) s)

/-- RPO (R226). -/
def execRpo (s : State) : Res := .next (ret (s.cond .po) s)

/-- RPE (R227). -/
def execRpe (s : State) : Res := .next (ret (s.cond .pe) s)

/-- RP (R228). -/
def execRp (s : State) : Res := .next (ret (s.cond .p) s)

/-- RM (R229). -/
def execRm (s : State) : Res := .next (ret (s.cond .m) s)

end Sys2Proof.Machine
end

