-- ==== Sys2Proof/Machine/Move.lean ====
section
/-! DEFINITION. MOV and MVI (41_data_movement.md R130 to R134). Neither writes F. -/

namespace Sys2Proof.Machine

/-- MOV d,s: every combination of the block maps to this one operation, which resolves `M` at execution time (R130 to R132;
30_encoding.md R87). -/
def mov (dst src : Loc) (s : State) : State :=
  let s := s.advance 1
  s.setOperand dst (s.operand src)

/-- MVI d,d8 (R133, R134). -/
def mvi (dst : Loc) (v : Byte) (s : State) : State :=
  (s.advance 2).setOperand dst v

/-! ## MOV -/

/-- MOV B,B (R130). -/
def execMovBB (s : State) : Res := .next (mov (.reg .b) (.reg .b) s)

/-- MOV B,C (R130). -/
def execMovBC (s : State) : Res := .next (mov (.reg .b) (.reg .c) s)

/-- MOV B,D (R130). -/
def execMovBD (s : State) : Res := .next (mov (.reg .b) (.reg .d) s)

/-- MOV B,E (R130). -/
def execMovBE (s : State) : Res := .next (mov (.reg .b) (.reg .e) s)

/-- MOV B,H (R130). -/
def execMovBH (s : State) : Res := .next (mov (.reg .b) (.reg .h) s)

/-- MOV B,L (R130). -/
def execMovBL (s : State) : Res := .next (mov (.reg .b) (.reg .l) s)

/-- MOV B,M (R131). -/
def execMovBM (s : State) : Res := .next (mov (.reg .b) .m s)

/-- MOV B,A (R130). -/
def execMovBA (s : State) : Res := .next (mov (.reg .b) (.reg .a) s)

/-- MOV C,B (R130). -/
def execMovCB (s : State) : Res := .next (mov (.reg .c) (.reg .b) s)

/-- MOV C,C (R130). -/
def execMovCC (s : State) : Res := .next (mov (.reg .c) (.reg .c) s)

/-- MOV C,D (R130). -/
def execMovCD (s : State) : Res := .next (mov (.reg .c) (.reg .d) s)

/-- MOV C,E (R130). -/
def execMovCE (s : State) : Res := .next (mov (.reg .c) (.reg .e) s)

/-- MOV C,H (R130). -/
def execMovCH (s : State) : Res := .next (mov (.reg .c) (.reg .h) s)

/-- MOV C,L (R130). -/
def execMovCL (s : State) : Res := .next (mov (.reg .c) (.reg .l) s)

/-- MOV C,M (R131). -/
def execMovCM (s : State) : Res := .next (mov (.reg .c) .m s)

/-- MOV C,A (R130). -/
def execMovCA (s : State) : Res := .next (mov (.reg .c) (.reg .a) s)

/-- MOV D,B (R130). -/
def execMovDB (s : State) : Res := .next (mov (.reg .d) (.reg .b) s)

/-- MOV D,C (R130). -/
def execMovDC (s : State) : Res := .next (mov (.reg .d) (.reg .c) s)

/-- MOV D,D (R130). -/
def execMovDD (s : State) : Res := .next (mov (.reg .d) (.reg .d) s)

/-- MOV D,E (R130). -/
def execMovDE (s : State) : Res := .next (mov (.reg .d) (.reg .e) s)

/-- MOV D,H (R130). -/
def execMovDH (s : State) : Res := .next (mov (.reg .d) (.reg .h) s)

/-- MOV D,L (R130). -/
def execMovDL (s : State) : Res := .next (mov (.reg .d) (.reg .l) s)

/-- MOV D,M (R131). -/
def execMovDM (s : State) : Res := .next (mov (.reg .d) .m s)

/-- MOV D,A (R130). -/
def execMovDA (s : State) : Res := .next (mov (.reg .d) (.reg .a) s)

/-- MOV E,B (R130). -/
def execMovEB (s : State) : Res := .next (mov (.reg .e) (.reg .b) s)

/-- MOV E,C (R130). -/
def execMovEC (s : State) : Res := .next (mov (.reg .e) (.reg .c) s)

/-- MOV E,D (R130). -/
def execMovED (s : State) : Res := .next (mov (.reg .e) (.reg .d) s)

/-- MOV E,E (R130). -/
def execMovEE (s : State) : Res := .next (mov (.reg .e) (.reg .e) s)

/-- MOV E,H (R130). -/
def execMovEH (s : State) : Res := .next (mov (.reg .e) (.reg .h) s)

/-- MOV E,L (R130). -/
def execMovEL (s : State) : Res := .next (mov (.reg .e) (.reg .l) s)

/-- MOV E,M (R131). -/
def execMovEM (s : State) : Res := .next (mov (.reg .e) .m s)

/-- MOV E,A (R130). -/
def execMovEA (s : State) : Res := .next (mov (.reg .e) (.reg .a) s)

/-- MOV H,B (R130). -/
def execMovHB (s : State) : Res := .next (mov (.reg .h) (.reg .b) s)

/-- MOV H,C (R130). -/
def execMovHC (s : State) : Res := .next (mov (.reg .h) (.reg .c) s)

/-- MOV H,D (R130). -/
def execMovHD (s : State) : Res := .next (mov (.reg .h) (.reg .d) s)

/-- MOV H,E (R130). -/
def execMovHE (s : State) : Res := .next (mov (.reg .h) (.reg .e) s)

/-- MOV H,H (R130). -/
def execMovHH (s : State) : Res := .next (mov (.reg .h) (.reg .h) s)

/-- MOV H,L (R130). -/
def execMovHL (s : State) : Res := .next (mov (.reg .h) (.reg .l) s)

/-- MOV H,M (R131). -/
def execMovHM (s : State) : Res := .next (mov (.reg .h) .m s)

/-- MOV H,A (R130). -/
def execMovHA (s : State) : Res := .next (mov (.reg .h) (.reg .a) s)

/-- MOV L,B (R130). -/
def execMovLB (s : State) : Res := .next (mov (.reg .l) (.reg .b) s)

/-- MOV L,C (R130). -/
def execMovLC (s : State) : Res := .next (mov (.reg .l) (.reg .c) s)

/-- MOV L,D (R130). -/
def execMovLD (s : State) : Res := .next (mov (.reg .l) (.reg .d) s)

/-- MOV L,E (R130). -/
def execMovLE (s : State) : Res := .next (mov (.reg .l) (.reg .e) s)

/-- MOV L,H (R130). -/
def execMovLH (s : State) : Res := .next (mov (.reg .l) (.reg .h) s)

/-- MOV L,L (R130). -/
def execMovLL (s : State) : Res := .next (mov (.reg .l) (.reg .l) s)

/-- MOV L,M (R131). -/
def execMovLM (s : State) : Res := .next (mov (.reg .l) .m s)

/-- MOV L,A (R130). -/
def execMovLA (s : State) : Res := .next (mov (.reg .l) (.reg .a) s)

/-- MOV M,B (R132). -/
def execMovMB (s : State) : Res := .next (mov .m (.reg .b) s)

/-- MOV M,C (R132). -/
def execMovMC (s : State) : Res := .next (mov .m (.reg .c) s)

/-- MOV M,D (R132). -/
def execMovMD (s : State) : Res := .next (mov .m (.reg .d) s)

/-- MOV M,E (R132). -/
def execMovME (s : State) : Res := .next (mov .m (.reg .e) s)

/-- MOV M,H (R132). -/
def execMovMH (s : State) : Res := .next (mov .m (.reg .h) s)

/-- MOV M,L (R132). -/
def execMovML (s : State) : Res := .next (mov .m (.reg .l) s)

/-- MOV M,A (R132). -/
def execMovMA (s : State) : Res := .next (mov .m (.reg .a) s)

/-- MOV A,B (R130). -/
def execMovAB (s : State) : Res := .next (mov (.reg .a) (.reg .b) s)

/-- MOV A,C (R130). -/
def execMovAC (s : State) : Res := .next (mov (.reg .a) (.reg .c) s)

/-- MOV A,D (R130). -/
def execMovAD (s : State) : Res := .next (mov (.reg .a) (.reg .d) s)

/-- MOV A,E (R130). -/
def execMovAE (s : State) : Res := .next (mov (.reg .a) (.reg .e) s)

/-- MOV A,H (R130). -/
def execMovAH (s : State) : Res := .next (mov (.reg .a) (.reg .h) s)

/-- MOV A,L (R130). -/
def execMovAL (s : State) : Res := .next (mov (.reg .a) (.reg .l) s)

/-- MOV A,M (R131). -/
def execMovAM (s : State) : Res := .next (mov (.reg .a) .m s)

/-- MOV A,A (R130). -/
def execMovAA (s : State) : Res := .next (mov (.reg .a) (.reg .a) s)

/-! ## MVI -/

/-- MVI B,d8 (R133). -/
def execMviB (v : Byte) (s : State) : Res := .next (mvi (.reg .b) v s)

/-- MVI C,d8 (R133). -/
def execMviC (v : Byte) (s : State) : Res := .next (mvi (.reg .c) v s)

/-- MVI D,d8 (R133). -/
def execMviD (v : Byte) (s : State) : Res := .next (mvi (.reg .d) v s)

/-- MVI E,d8 (R133). -/
def execMviE (v : Byte) (s : State) : Res := .next (mvi (.reg .e) v s)

/-- MVI H,d8 (R133). -/
def execMviH (v : Byte) (s : State) : Res := .next (mvi (.reg .h) v s)

/-- MVI L,d8 (R133). -/
def execMviL (v : Byte) (s : State) : Res := .next (mvi (.reg .l) v s)

/-- MVI M,d8 (R134). -/
def execMviM (v : Byte) (s : State) : Res := .next (mvi .m v s)

/-- MVI A,d8 (R133). -/
def execMviA (v : Byte) (s : State) : Res := .next (mvi (.reg .a) v s)

end Sys2Proof.Machine
end

