-- ==== Sys2Proof/Machine/Pairs.lean ====
section
/-! DEFINITION. The register-pair instructions (43_register_pair.md R181 to R188). Only POP PSW writes F. -/

namespace Sys2Proof.Machine

/-- LXI rp,d16 (R181). -/
def lxi (p : Pair) (v : Word) (s : State) : State :=
  (s.advance 3).setPair p v

/-- LDAX rp (R182). -/
def ldax (p : IndPair) (s : State) : State :=
  let s := s.advance 1
  s.setReg .a (s.read8 (s.indPair p))

/-- STAX rp (R183). -/
def stax (p : IndPair) (s : State) : State :=
  let s := s.advance 1
  s.write8 (s.indPair p) s.a

/-- INX rp, modulo 65536 and without flags (R184). -/
def inx (p : Pair) (s : State) : State :=
  let s := s.advance 1
  s.setPair p (s.pair p + 1)

/-- DCX rp, modulo 65536 and without flags (R185). -/
def dcx (p : Pair) (s : State) : State :=
  let s := s.advance 1
  s.setPair p (s.pair p - 1)

/-- PUSH rp (R186). -/
def push (p : StackPair) (s : State) : State :=
  let s := s.advance 1
  s.push16 (s.stackPair p)

/-- POP rp, POP PSW writing all 8 bits of F (R187, R188). -/
def pop (p : StackPair) (s : State) : State :=
  let s := s.advance 1
  s.pop16.2.setStackPair p s.pop16.1

/-! ## LXI -/

/-- LXI B,d16 (R181). -/
def execLxiB (v : Word) (s : State) : Res := .next (lxi .bc v s)

/-- LXI D,d16 (R181). -/
def execLxiD (v : Word) (s : State) : Res := .next (lxi .de v s)

/-- LXI H,d16 (R181). -/
def execLxiH (v : Word) (s : State) : Res := .next (lxi .hl v s)

/-- LXI SP,d16 (R181). -/
def execLxiSp (v : Word) (s : State) : Res := .next (lxi .sp v s)

/-! ## LDAX and STAX -/

/-- LDAX B (R182). -/
def execLdaxB (s : State) : Res := .next (ldax .bc s)

/-- LDAX D (R182). -/
def execLdaxD (s : State) : Res := .next (ldax .de s)

/-- STAX B (R183). -/
def execStaxB (s : State) : Res := .next (stax .bc s)

/-- STAX D (R183). -/
def execStaxD (s : State) : Res := .next (stax .de s)

/-! ## INX and DCX -/

/-- INX B (R184). -/
def execInxB (s : State) : Res := .next (inx .bc s)

/-- INX D (R184). -/
def execInxD (s : State) : Res := .next (inx .de s)

/-- INX H (R184). -/
def execInxH (s : State) : Res := .next (inx .hl s)

/-- INX SP (R184). -/
def execInxSp (s : State) : Res := .next (inx .sp s)

/-- DCX B (R185). -/
def execDcxB (s : State) : Res := .next (dcx .bc s)

/-- DCX D (R185). -/
def execDcxD (s : State) : Res := .next (dcx .de s)

/-- DCX H (R185). -/
def execDcxH (s : State) : Res := .next (dcx .hl s)

/-- DCX SP (R185). -/
def execDcxSp (s : State) : Res := .next (dcx .sp s)

/-! ## PUSH -/

/-- PUSH B (R186). -/
def execPushB (s : State) : Res := .next (push .bc s)

/-- PUSH D (R186). -/
def execPushD (s : State) : Res := .next (push .de s)

/-- PUSH H (R186). -/
def execPushH (s : State) : Res := .next (push .hl s)

/-- PUSH PSW (R186). -/
def execPushPsw (s : State) : Res := .next (push .psw s)

/-! ## POP -/

/-- POP B (R187). -/
def execPopB (s : State) : Res := .next (pop .bc s)

/-- POP D (R187). -/
def execPopD (s : State) : Res := .next (pop .de s)

/-- POP H (R187). -/
def execPopH (s : State) : Res := .next (pop .hl s)

/-- POP PSW (R188). -/
def execPopPsw (s : State) : Res := .next (pop .psw s)

end Sys2Proof.Machine
end

