-- ==== Sys2Proof/Machine/Single.lean ====
section
/-! DEFINITION. The single-slot instructions that are not ALU forms (45_single_slot.md R240 to R246), and the undefined opcode
(40_fetch_execute.md R113). -/

namespace Sys2Proof.Machine

/-- NOP (R240). -/
def execNop (s : State) : Res := .next (s.advance 1)

/-- HLT: clears `running` and nothing else; the phase changes at the next cycle boundary (R241; 40_fetch_execute.md R115). -/
def execHlt (s : State) : Res := .next ((s.advance 1).setRunning false)

/-- LDA a16 (R242). -/
def execLda (a : Word) (s : State) : Res :=
  let s := s.advance 3
  .next (s.setReg .a (s.read8 a))

/-- STA a16 (R243). -/
def execSta (a : Word) (s : State) : Res :=
  let s := s.advance 3
  .next (s.write8 a s.a)

/-- LHLD a16: L from `a`, H from `a + 1` (R244). -/
def execLhld (a : Word) (s : State) : Res :=
  let s := s.advance 3
  .next (s.setPair .hl (s.read16 a))

/-- SHLD a16: L to `a`, H to `a + 1` (R245). -/
def execShld (a : Word) (s : State) : Res :=
  let s := s.advance 3
  .next (s.write16 a (s.pair .hl))

/-- XCHG (R246). -/
def execXchg (s : State) : Res :=
  let s := s.advance 1
  .next ((s.setPair .hl (s.pair .de)).setPair .de (s.pair .hl))

/-- An undefined opcode: `pc` passes the one byte, and the report names the opcode's address and the byte (40_fetch_execute.md
R113). No other state changes. -/
def execUndefined (op : Byte) (s : State) : Res :=
  .next ((s.advance 1).report s.pc op)

end Sys2Proof.Machine
end

