-- ==== Sys2Proof/Machine/Dispatch.lean ====
section
/-! DEFINITION. The dispatch of an instruction to its meaning (40_fetch_execute.md R112). -/

namespace Sys2Proof.Machine

/-- `i` executed from a state whose `pc` is the address of its opcode; the meaning moves `pc` past the bytes (log 7). -/
def exec (i : Instr) (s : State) : Host.Outcome State Fault Refusal :=
  match i with
  | .movBB => Sys2Proof.Machine.execMovBB s
  | .movBC => Sys2Proof.Machine.execMovBC s
  | .movBD => Sys2Proof.Machine.execMovBD s
  | .movBE => Sys2Proof.Machine.execMovBE s
  | .movBH => Sys2Proof.Machine.execMovBH s
  | .movBL => Sys2Proof.Machine.execMovBL s
  | .movBM => Sys2Proof.Machine.execMovBM s
  | .movBA => Sys2Proof.Machine.execMovBA s
  | .movCB => Sys2Proof.Machine.execMovCB s
  | .movCC => Sys2Proof.Machine.execMovCC s
  | .movCD => Sys2Proof.Machine.execMovCD s
  | .movCE => Sys2Proof.Machine.execMovCE s
  | .movCH => Sys2Proof.Machine.execMovCH s
  | .movCL => Sys2Proof.Machine.execMovCL s
  | .movCM => Sys2Proof.Machine.execMovCM s
  | .movCA => Sys2Proof.Machine.execMovCA s
  | .movDB => Sys2Proof.Machine.execMovDB s
  | .movDC => Sys2Proof.Machine.execMovDC s
  | .movDD => Sys2Proof.Machine.execMovDD s
  | .movDE => Sys2Proof.Machine.execMovDE s
  | .movDH => Sys2Proof.Machine.execMovDH s
  | .movDL => Sys2Proof.Machine.execMovDL s
  | .movDM => Sys2Proof.Machine.execMovDM s
  | .movDA => Sys2Proof.Machine.execMovDA s
  | .movEB => Sys2Proof.Machine.execMovEB s
  | .movEC => Sys2Proof.Machine.execMovEC s
  | .movED => Sys2Proof.Machine.execMovED s
  | .movEE => Sys2Proof.Machine.execMovEE s
  | .movEH => Sys2Proof.Machine.execMovEH s
  | .movEL => Sys2Proof.Machine.execMovEL s
  | .movEM => Sys2Proof.Machine.execMovEM s
  | .movEA => Sys2Proof.Machine.execMovEA s
  | .movHB => Sys2Proof.Machine.execMovHB s
  | .movHC => Sys2Proof.Machine.execMovHC s
  | .movHD => Sys2Proof.Machine.execMovHD s
  | .movHE => Sys2Proof.Machine.execMovHE s
  | .movHH => Sys2Proof.Machine.execMovHH s
  | .movHL => Sys2Proof.Machine.execMovHL s
  | .movHM => Sys2Proof.Machine.execMovHM s
  | .movHA => Sys2Proof.Machine.execMovHA s
  | .movLB => Sys2Proof.Machine.execMovLB s
  | .movLC => Sys2Proof.Machine.execMovLC s
  | .movLD => Sys2Proof.Machine.execMovLD s
  | .movLE => Sys2Proof.Machine.execMovLE s
  | .movLH => Sys2Proof.Machine.execMovLH s
  | .movLL => Sys2Proof.Machine.execMovLL s
  | .movLM => Sys2Proof.Machine.execMovLM s
  | .movLA => Sys2Proof.Machine.execMovLA s
  | .movMB => Sys2Proof.Machine.execMovMB s
  | .movMC => Sys2Proof.Machine.execMovMC s
  | .movMD => Sys2Proof.Machine.execMovMD s
  | .movME => Sys2Proof.Machine.execMovME s
  | .movMH => Sys2Proof.Machine.execMovMH s
  | .movML => Sys2Proof.Machine.execMovML s
  | .movMA => Sys2Proof.Machine.execMovMA s
  | .movAB => Sys2Proof.Machine.execMovAB s
  | .movAC => Sys2Proof.Machine.execMovAC s
  | .movAD => Sys2Proof.Machine.execMovAD s
  | .movAE => Sys2Proof.Machine.execMovAE s
  | .movAH => Sys2Proof.Machine.execMovAH s
  | .movAL => Sys2Proof.Machine.execMovAL s
  | .movAM => Sys2Proof.Machine.execMovAM s
  | .movAA => Sys2Proof.Machine.execMovAA s
  | .mviB v => Sys2Proof.Machine.execMviB v s
  | .mviC v => Sys2Proof.Machine.execMviC v s
  | .mviD v => Sys2Proof.Machine.execMviD v s
  | .mviE v => Sys2Proof.Machine.execMviE v s
  | .mviH v => Sys2Proof.Machine.execMviH v s
  | .mviL v => Sys2Proof.Machine.execMviL v s
  | .mviM v => Sys2Proof.Machine.execMviM v s
  | .mviA v => Sys2Proof.Machine.execMviA v s
  | .addB => Sys2Proof.Machine.execAddB s
  | .addC => Sys2Proof.Machine.execAddC s
  | .addD => Sys2Proof.Machine.execAddD s
  | .addE => Sys2Proof.Machine.execAddE s
  | .addH => Sys2Proof.Machine.execAddH s
  | .addL => Sys2Proof.Machine.execAddL s
  | .addM => Sys2Proof.Machine.execAddM s
  | .addA => Sys2Proof.Machine.execAddA s
  | .adcB => Sys2Proof.Machine.execAdcB s
  | .adcC => Sys2Proof.Machine.execAdcC s
  | .adcD => Sys2Proof.Machine.execAdcD s
  | .adcE => Sys2Proof.Machine.execAdcE s
  | .adcH => Sys2Proof.Machine.execAdcH s
  | .adcL => Sys2Proof.Machine.execAdcL s
  | .adcM => Sys2Proof.Machine.execAdcM s
  | .adcA => Sys2Proof.Machine.execAdcA s
  | .subB => Sys2Proof.Machine.execSubB s
  | .subC => Sys2Proof.Machine.execSubC s
  | .subD => Sys2Proof.Machine.execSubD s
  | .subE => Sys2Proof.Machine.execSubE s
  | .subH => Sys2Proof.Machine.execSubH s
  | .subL => Sys2Proof.Machine.execSubL s
  | .subM => Sys2Proof.Machine.execSubM s
  | .subA => Sys2Proof.Machine.execSubA s
  | .sbbB => Sys2Proof.Machine.execSbbB s
  | .sbbC => Sys2Proof.Machine.execSbbC s
  | .sbbD => Sys2Proof.Machine.execSbbD s
  | .sbbE => Sys2Proof.Machine.execSbbE s
  | .sbbH => Sys2Proof.Machine.execSbbH s
  | .sbbL => Sys2Proof.Machine.execSbbL s
  | .sbbM => Sys2Proof.Machine.execSbbM s
  | .sbbA => Sys2Proof.Machine.execSbbA s
  | .anaB => Sys2Proof.Machine.execAnaB s
  | .anaC => Sys2Proof.Machine.execAnaC s
  | .anaD => Sys2Proof.Machine.execAnaD s
  | .anaE => Sys2Proof.Machine.execAnaE s
  | .anaH => Sys2Proof.Machine.execAnaH s
  | .anaL => Sys2Proof.Machine.execAnaL s
  | .anaM => Sys2Proof.Machine.execAnaM s
  | .anaA => Sys2Proof.Machine.execAnaA s
  | .xraB => Sys2Proof.Machine.execXraB s
  | .xraC => Sys2Proof.Machine.execXraC s
  | .xraD => Sys2Proof.Machine.execXraD s
  | .xraE => Sys2Proof.Machine.execXraE s
  | .xraH => Sys2Proof.Machine.execXraH s
  | .xraL => Sys2Proof.Machine.execXraL s
  | .xraM => Sys2Proof.Machine.execXraM s
  | .xraA => Sys2Proof.Machine.execXraA s
  | .oraB => Sys2Proof.Machine.execOraB s
  | .oraC => Sys2Proof.Machine.execOraC s
  | .oraD => Sys2Proof.Machine.execOraD s
  | .oraE => Sys2Proof.Machine.execOraE s
  | .oraH => Sys2Proof.Machine.execOraH s
  | .oraL => Sys2Proof.Machine.execOraL s
  | .oraM => Sys2Proof.Machine.execOraM s
  | .oraA => Sys2Proof.Machine.execOraA s
  | .cmpB => Sys2Proof.Machine.execCmpB s
  | .cmpC => Sys2Proof.Machine.execCmpC s
  | .cmpD => Sys2Proof.Machine.execCmpD s
  | .cmpE => Sys2Proof.Machine.execCmpE s
  | .cmpH => Sys2Proof.Machine.execCmpH s
  | .cmpL => Sys2Proof.Machine.execCmpL s
  | .cmpM => Sys2Proof.Machine.execCmpM s
  | .cmpA => Sys2Proof.Machine.execCmpA s
  | .adi v => Sys2Proof.Machine.execAdi v s
  | .aci v => Sys2Proof.Machine.execAci v s
  | .sui v => Sys2Proof.Machine.execSui v s
  | .sbi v => Sys2Proof.Machine.execSbi v s
  | .ani v => Sys2Proof.Machine.execAni v s
  | .xri v => Sys2Proof.Machine.execXri v s
  | .ori v => Sys2Proof.Machine.execOri v s
  | .cpi v => Sys2Proof.Machine.execCpi v s
  | .inrB => Sys2Proof.Machine.execInrB s
  | .inrC => Sys2Proof.Machine.execInrC s
  | .inrD => Sys2Proof.Machine.execInrD s
  | .inrE => Sys2Proof.Machine.execInrE s
  | .inrH => Sys2Proof.Machine.execInrH s
  | .inrL => Sys2Proof.Machine.execInrL s
  | .inrM => Sys2Proof.Machine.execInrM s
  | .inrA => Sys2Proof.Machine.execInrA s
  | .dcrB => Sys2Proof.Machine.execDcrB s
  | .dcrC => Sys2Proof.Machine.execDcrC s
  | .dcrD => Sys2Proof.Machine.execDcrD s
  | .dcrE => Sys2Proof.Machine.execDcrE s
  | .dcrH => Sys2Proof.Machine.execDcrH s
  | .dcrL => Sys2Proof.Machine.execDcrL s
  | .dcrM => Sys2Proof.Machine.execDcrM s
  | .dcrA => Sys2Proof.Machine.execDcrA s
  | .rlc => Sys2Proof.Machine.execRlc s
  | .rrc => Sys2Proof.Machine.execRrc s
  | .ral => Sys2Proof.Machine.execRal s
  | .rar => Sys2Proof.Machine.execRar s
  | .lxiB v => Sys2Proof.Machine.execLxiB v s
  | .lxiD v => Sys2Proof.Machine.execLxiD v s
  | .lxiH v => Sys2Proof.Machine.execLxiH v s
  | .lxiSp v => Sys2Proof.Machine.execLxiSp v s
  | .ldaxB => Sys2Proof.Machine.execLdaxB s
  | .ldaxD => Sys2Proof.Machine.execLdaxD s
  | .staxB => Sys2Proof.Machine.execStaxB s
  | .staxD => Sys2Proof.Machine.execStaxD s
  | .inxB => Sys2Proof.Machine.execInxB s
  | .inxD => Sys2Proof.Machine.execInxD s
  | .inxH => Sys2Proof.Machine.execInxH s
  | .inxSp => Sys2Proof.Machine.execInxSp s
  | .dcxB => Sys2Proof.Machine.execDcxB s
  | .dcxD => Sys2Proof.Machine.execDcxD s
  | .dcxH => Sys2Proof.Machine.execDcxH s
  | .dcxSp => Sys2Proof.Machine.execDcxSp s
  | .pushB => Sys2Proof.Machine.execPushB s
  | .pushD => Sys2Proof.Machine.execPushD s
  | .pushH => Sys2Proof.Machine.execPushH s
  | .pushPsw => Sys2Proof.Machine.execPushPsw s
  | .popB => Sys2Proof.Machine.execPopB s
  | .popD => Sys2Proof.Machine.execPopD s
  | .popH => Sys2Proof.Machine.execPopH s
  | .popPsw => Sys2Proof.Machine.execPopPsw s
  | .jmp a => Sys2Proof.Machine.execJmp a s
  | .jnz a => Sys2Proof.Machine.execJnz a s
  | .jz a => Sys2Proof.Machine.execJz a s
  | .jnc a => Sys2Proof.Machine.execJnc a s
  | .jc a => Sys2Proof.Machine.execJc a s
  | .jpo a => Sys2Proof.Machine.execJpo a s
  | .jpe a => Sys2Proof.Machine.execJpe a s
  | .jp a => Sys2Proof.Machine.execJp a s
  | .jm a => Sys2Proof.Machine.execJm a s
  | .call a => Sys2Proof.Machine.execCall a s
  | .cnz a => Sys2Proof.Machine.execCnz a s
  | .cz a => Sys2Proof.Machine.execCz a s
  | .cnc a => Sys2Proof.Machine.execCnc a s
  | .cc a => Sys2Proof.Machine.execCc a s
  | .cpo a => Sys2Proof.Machine.execCpo a s
  | .cpe a => Sys2Proof.Machine.execCpe a s
  | .cp a => Sys2Proof.Machine.execCp a s
  | .cm a => Sys2Proof.Machine.execCm a s
  | .ret => Sys2Proof.Machine.execRet s
  | .rnz => Sys2Proof.Machine.execRnz s
  | .rz => Sys2Proof.Machine.execRz s
  | .rnc => Sys2Proof.Machine.execRnc s
  | .rc => Sys2Proof.Machine.execRc s
  | .rpo => Sys2Proof.Machine.execRpo s
  | .rpe => Sys2Proof.Machine.execRpe s
  | .rp => Sys2Proof.Machine.execRp s
  | .rm => Sys2Proof.Machine.execRm s
  | .nop => Sys2Proof.Machine.execNop s
  | .hlt => Sys2Proof.Machine.execHlt s
  | .lda a => Sys2Proof.Machine.execLda a s
  | .sta a => Sys2Proof.Machine.execSta a s
  | .lhld a => Sys2Proof.Machine.execLhld a s
  | .shld a => Sys2Proof.Machine.execShld a s
  | .xchg => Sys2Proof.Machine.execXchg s
  | .undefined op => Sys2Proof.Machine.execUndefined op s

end Sys2Proof.Machine
end

