-- ==== Sys2Proof/Machine/Inspector.lean ====
section
/-! DEFINITION. The inspector port: every command as one atomic step (60_exceptions.md R260 to R272). -/

namespace Sys2Proof.Machine

/-- The registers of the port's identifiers; 6 and every number from 8 on are none (R262, R263). -/
def portReg (id : Nat) : Option Reg :=
  match id with
  | 0 => some .b | 1 => some .c | 2 => some .d | 3 => some .e | 4 => some .h | 5 => some .l | 7 => some .a
  | _ => none

/-- The pairs of the port's identifiers (R265). -/
def portPair (q : Nat) : Option PortPair :=
  match q with
  | 0 => some .bc | 1 => some .de | 2 => some .hl | 3 => some .sp | 4 => some .psw
  | _ => none

/-- The value `ReadPair` returns (R264). -/
def State.portPairValue (s : State) : PortPair → Word
  | .bc => s.pair .bc
  | .de => s.pair .de
  | .hl => s.pair .hl
  | .sp => s.pair .sp
  | .psw => s.stackPair .psw

/-- The mutation `WritePair` performs (R264). -/
def State.setPortPair (s : State) (q : PortPair) (v : Word) : State :=
  match q with
  | .bc => s.setPair .bc v
  | .de => s.setPair .de v
  | .hl => s.setPair .hl v
  | .sp => s.setPair .sp v
  | .psw => s.setStackPair .psw v

/-- What the dump command and the final state report read (R271; 70_reset_and_hazards.md R296). -/
def State.dump (s : State) : Dump :=
  { pc := s.pc, sp := s.sp, a := s.a, b := s.b, c := s.c, d := s.d, e := s.e, h := s.h, l := s.l
    flagS := s.flag .s, flagZ := s.flag .z, flagAC := s.flag .ac, flagP := s.flag .p, flagCY := s.flag .cy
    port2000 := s.read8 0x2000, port3000 := s.read8 0x3000 }

/-- One command: its reply and the state after it. A failing command changes nothing (R261). -/
def inspect (k : Command) (s : State) : Reply × State :=
  match k with
  | .readReg id =>
    match portReg id with
    | some r => (.byte (s.reg r), s)
    | none => (.failed .invalidRegister, s)
  | .writeReg id v =>
    match portReg id with
    | some r => (.done, s.setReg r v)
    | none => (.failed .invalidRegister, s)
  | .readPair q =>
    match portPair q with
    | some p => (.word (s.portPairValue p), s)
    | none => (.failed .invalidPair, s)
  | .writePair q v =>
    match portPair q with
    | some p => (.done, s.setPortPair p v)
    | none => (.failed .invalidPair, s)
  | .readF => (.byte s.f, s)
  | .writeF v => (.done, s.setF v)
  | .readFlag (some n) => (.bool (s.flag n), s)
  | .readFlag none => (.failed .invalidRegister, s)
  | .writeFlag (some n) v => (.done, s.setFlag n v)
  | .writeFlag none _ => (.failed .invalidRegister, s)
  | .readPC => (.word s.pc, s)
  | .writePC v => (.done, s.setPc v)
  | .readSP => (.word s.sp, s)
  | .writeSP v => (.done, s.setSp v)
  | .readMem addr =>
    if addr ≤ 0xFFFF then (.byte (s.read8 (BitVec.ofNat 16 addr)), s) else (.failed .invalidAddress, s)
  | .writeMem addr v =>
    if addr ≤ 0xFFFF then (.done, s.write8 (BitVec.ofNat 16 addr) v) else (.failed .invalidAddress, s)
  | .readRunning => (.bool s.running, s)
  | .writeRunning v => (.done, s.setRunning v)
  | .readThrottle => (.nat s.throttle, s)
  | .writeThrottle t => (.done, { s with throttle := t })
  | .dumpState => (.dump s.dump, s)
  | .terminate => (.done, { s with inspectorDone := true })

/-- One command step: the command's mutation, and its reply given to the inspector (R260, R261). An inspector that has
terminated issues no command (R272), so for it the turn is void. -/
def issue (k : Command) (s : State) : State :=
  if s.inspectorDone then s
  else { (inspect k s).2 with replies := s.replies ++ [(inspect k s).1] }

end Sys2Proof.Machine
end

