-- ==== Sys2Proof/Machine/Loader.lean ====
section
/-! DEFINITION. The start and the end of a run: loading an image (70_reset_and_hazards.md R290 to R293), the run's end (R295)
and the final report (R296). -/

namespace Sys2Proof.Machine

/-- The reset sequence with an image, `none` being one that cannot be read. A failed load constructs no state (R290, R293).
The inspector's coming turns are an input of the run (60_exceptions.md R277). -/
def State.boot (cfg : Config) (schedule : List Turn) (image : Option (List Byte)) : Res :=
  match image with
  | none => .refused .imageUnreadable
  | some bytes =>
    if cfg.loadAddr.toNat + bytes.length ≤ cfg.stackBoundary.toNat then
      .next ((State.resetWith cfg schedule).storeBytes cfg.loadAddr bytes)
    else .refused .imageTooLarge

/-- The run has ended: the phase is terminal and the inspector has terminated (R295). -/
def State.runEnded (s : State) : Bool := s.phase != .running && s.inspectorDone

/-- The final state report: the dump's fields and the phase (R296). -/
def State.finalReport (s : State) : Dump × Phase := (s.dump, s.phase)

end Sys2Proof.Machine
end

