-- ==== Sys2Proof/Machine/Sequencer.lean ====
section
/-! DEFINITION. The sequencer's cycle (40_fetch_execute.md R110 to R117) and the turn of the two agents (60_exceptions.md
R260, R277). -/

namespace Sys2Proof.Machine

/-- The three bytes from `pc` on, each address modulo 65536 (30_encoding.md R84). Reading a byte has no effect (20_memory.md
R60), so an instruction's bytes are fetched together, before its data accesses (R65; log 7). -/
def State.window (s : State) : List Byte :=
  [s.read8 s.pc, s.read8 (s.pc + 1), s.read8 (s.pc + 2)]

/-- The instruction at `pc`. -/
def State.instrAt (s : State) : Instr :=
  decodeOp s.cfg.unwiredCcMode (s.read8 s.pc) (s.read8 (s.pc + 1)) (s.read8 (s.pc + 2))

/-- One cycle: the terminal checks in the order of R114, then one instruction. In a terminal phase there is no cycle and
nothing changes (R117; log 6). -/
def cycle (s : State) : Res :=
  if s.phase ≠ .running then .next s
  else if s.running = false then .next { s with phase := .halted }
  else if s.cfg.stackBoundary.toNat ≤ s.pc.toNat then .next { s with phase := .outOfBounds }
  else exec s.instrAt s

/-- One step of the run: the oracle's next choice, a cycle where it has none left (60_exceptions.md R260, R277; log 4). -/
def takeTurn (s : State) : Res :=
  match s.schedule with
  | [] => cycle s
  | .cycle :: rest => cycle { s with schedule := rest }
  | .command k :: rest => .next (issue k { s with schedule := rest })

/-- `w`'s bytes stored where the next cycle fetches (log 14). -/
def State.placeWord (s : State) (nbits w : Nat) : State :=
  s.storeBytes s.pc (tableBytes nbits w)

end Sys2Proof.Machine
end

