-- ==== Sys2Proof/Machine/Step.lean ====
section
/-! DEFINITION. The step of the machine. -/

namespace Sys2Proof.Machine

/-- One step: a sequencer cycle or one inspector command (60_exceptions.md R260). -/
def step (s : State) : Host.Outcome State Fault Refusal := takeTurn s

/-- `s` with an instruction of the opcode table stored where `step` fetches its next instruction. -/
def State.withFetchWord (s : State) (nbits w : Nat) : State := s.placeWord nbits w

end Sys2Proof.Machine
end

