-- ==== Sys2Proof/Safety.lean ====
section
/-! DEFINITION. The terms the statements use: instruction families, what an instruction may store to, how a result sets the
flags, and the premise under which the inspector leaves the core state alone. -/

namespace Sys2Proof

open Sys2Proof.Machine

/-- The families of the opcode table (30_encoding.md R86 to R93), POP PSW apart because it alone writes all of F. -/
inductive Family where
  | mov | mvi | alu | aluImm | inr | dcr | rotate | lxi | ldax | stax | inx | dcx
  | push | pop | popPsw | jmp | jcc | call | ccc | ret | rcc | nop | hlt | lda | sta | lhld | shld | xchg | undefined
  deriving DecidableEq, Repr

/-- The family of an instruction. -/
def familyOf (i : Instr) : Family :=
  match i with
  | .movBB | .movBC | .movBD | .movBE | .movBH | .movBL | .movBM | .movBA
  | .movCB | .movCC | .movCD | .movCE | .movCH | .movCL | .movCM | .movCA
  | .movDB | .movDC | .movDD | .movDE | .movDH | .movDL | .movDM | .movDA
  | .movEB | .movEC | .movED | .movEE | .movEH | .movEL | .movEM | .movEA
  | .movHB | .movHC | .movHD | .movHE | .movHH | .movHL | .movHM | .movHA
  | .movLB | .movLC | .movLD | .movLE | .movLH | .movLL | .movLM | .movLA
  | .movMB | .movMC | .movMD | .movME | .movMH | .movML | .movMA | .movAB
  | .movAC | .movAD | .movAE | .movAH | .movAL | .movAM | .movAA => .mov
  | .mviB _ | .mviC _ | .mviD _ | .mviE _ | .mviH _ | .mviL _ | .mviM _ | .mviA _ => .mvi
  | .addB | .addC | .addD | .addE | .addH | .addL | .addM | .addA
  | .adcB | .adcC | .adcD | .adcE | .adcH | .adcL | .adcM | .adcA
  | .subB | .subC | .subD | .subE | .subH | .subL | .subM | .subA
  | .sbbB | .sbbC | .sbbD | .sbbE | .sbbH | .sbbL | .sbbM | .sbbA
  | .anaB | .anaC | .anaD | .anaE | .anaH | .anaL | .anaM | .anaA
  | .xraB | .xraC | .xraD | .xraE | .xraH | .xraL | .xraM | .xraA
  | .oraB | .oraC | .oraD | .oraE | .oraH | .oraL | .oraM | .oraA
  | .cmpB | .cmpC | .cmpD | .cmpE | .cmpH | .cmpL | .cmpM | .cmpA => .alu
  | .adi _ | .aci _ | .sui _ | .sbi _ | .ani _ | .xri _ | .ori _ | .cpi _ => .aluImm
  | .inrB | .inrC | .inrD | .inrE | .inrH | .inrL | .inrM | .inrA => .inr
  | .dcrB | .dcrC | .dcrD | .dcrE | .dcrH | .dcrL | .dcrM | .dcrA => .dcr
  | .rlc | .rrc | .ral | .rar => .rotate
  | .lxiB _ | .lxiD _ | .lxiH _ | .lxiSp _ => .lxi
  | .ldaxB | .ldaxD => .ldax
  | .staxB | .staxD => .stax
  | .inxB | .inxD | .inxH | .inxSp => .inx
  | .dcxB | .dcxD | .dcxH | .dcxSp => .dcx
  | .pushB | .pushD | .pushH | .pushPsw => .push
  | .popB | .popD | .popH => .pop
  | .popPsw => .popPsw
  | .jmp _ => .jmp
  | .jnz _ | .jz _ | .jnc _ | .jc _ | .jpo _ | .jpe _ | .jp _ | .jm _ => .jcc
  | .call _ => .call
  | .cnz _ | .cz _ | .cnc _ | .cc _ | .cpo _ | .cpe _ | .cp _ | .cm _ => .ccc
  | .ret => .ret
  | .rnz | .rz | .rnc | .rc | .rpo | .rpe | .rp | .rm => .rcc
  | .nop => .nop
  | .hlt => .hlt
  | .lda _ => .lda
  | .sta _ => .sta
  | .lhld _ => .lhld
  | .shld _ => .shld
  | .xchg => .xchg
  | .undefined _ => .undefined

/-- The addresses an instruction stores to, executed from `s` (20_memory.md R58, the column of data writes). -/
def storesTo (i : Instr) (s : State) : List Word :=
  match i with
  | .movMB => [s.mAddr]
  | .movMC => [s.mAddr]
  | .movMD => [s.mAddr]
  | .movME => [s.mAddr]
  | .movMH => [s.mAddr]
  | .movML => [s.mAddr]
  | .movMA => [s.mAddr]
  | .mviM _ => [s.mAddr]
  | .inrM => [s.mAddr]
  | .dcrM => [s.mAddr]
  | .staxB => [s.indPair .bc]
  | .staxD => [s.indPair .de]
  | .pushB => [s.sp - 1, s.sp - 2]
  | .pushD => [s.sp - 1, s.sp - 2]
  | .pushH => [s.sp - 1, s.sp - 2]
  | .pushPsw => [s.sp - 1, s.sp - 2]
  | .call _ => [s.sp - 1, s.sp - 2]
  | .cnz _ => if s.cond .nz then [s.sp - 1, s.sp - 2] else []
  | .cz _ => if s.cond .z then [s.sp - 1, s.sp - 2] else []
  | .cnc _ => if s.cond .nc then [s.sp - 1, s.sp - 2] else []
  | .cc _ => if s.cond .c then [s.sp - 1, s.sp - 2] else []
  | .cpo _ => if s.cond .po then [s.sp - 1, s.sp - 2] else []
  | .cpe _ => if s.cond .pe then [s.sp - 1, s.sp - 2] else []
  | .cp _ => if s.cond .p then [s.sp - 1, s.sp - 2] else []
  | .cm _ => if s.cond .m then [s.sp - 1, s.sp - 2] else []
  | .sta a => [a]
  | .shld a => [a, a + 1]
  | .movBB | .movBC | .movBD | .movBE | .movBH | .movBL | .movBM | .movBA
  | .movCB | .movCC | .movCD | .movCE | .movCH | .movCL | .movCM | .movCA
  | .movDB | .movDC | .movDD | .movDE | .movDH | .movDL | .movDM | .movDA
  | .movEB | .movEC | .movED | .movEE | .movEH | .movEL | .movEM | .movEA
  | .movHB | .movHC | .movHD | .movHE | .movHH | .movHL | .movHM | .movHA
  | .movLB | .movLC | .movLD | .movLE | .movLH | .movLL | .movLM | .movLA
  | .movAB | .movAC | .movAD | .movAE | .movAH | .movAL | .movAM | .movAA
  | .mviB _ | .mviC _ | .mviD _ | .mviE _ | .mviH _ | .mviL _ | .mviA _ | .addB
  | .addC | .addD | .addE | .addH | .addL | .addM | .addA | .adcB
  | .adcC | .adcD | .adcE | .adcH | .adcL | .adcM | .adcA | .subB
  | .subC | .subD | .subE | .subH | .subL | .subM | .subA | .sbbB
  | .sbbC | .sbbD | .sbbE | .sbbH | .sbbL | .sbbM | .sbbA | .anaB
  | .anaC | .anaD | .anaE | .anaH | .anaL | .anaM | .anaA | .xraB
  | .xraC | .xraD | .xraE | .xraH | .xraL | .xraM | .xraA | .oraB
  | .oraC | .oraD | .oraE | .oraH | .oraL | .oraM | .oraA | .cmpB
  | .cmpC | .cmpD | .cmpE | .cmpH | .cmpL | .cmpM | .cmpA | .adi _
  | .aci _ | .sui _ | .sbi _ | .ani _ | .xri _ | .ori _ | .cpi _ | .inrB
  | .inrC | .inrD | .inrE | .inrH | .inrL | .inrA | .dcrB | .dcrC
  | .dcrD | .dcrE | .dcrH | .dcrL | .dcrA | .rlc | .rrc | .ral
  | .rar | .lxiB _ | .lxiD _ | .lxiH _ | .lxiSp _ | .ldaxB | .ldaxD | .inxB
  | .inxD | .inxH | .inxSp | .dcxB | .dcxD | .dcxH | .dcxSp | .popB
  | .popD | .popH | .popPsw | .jmp _ | .jnz _ | .jz _ | .jnc _ | .jc _
  | .jpo _ | .jpe _ | .jp _ | .jm _ | .ret | .rnz | .rz | .rnc
  | .rc | .rpo | .rpe | .rp | .rm | .nop | .hlt | .lda _
  | .lhld _ | .xchg
  | .undefined _ => []

/-- How many bits of a byte are 1. -/
def onesIn (v : Byte) : Nat := ((List.range 8).filter (fun i => v.getLsbD i)).length

/-- Flag Computation's effect on the flag byte for a result and a carry: Z, S, P and CY are the result's, AC and the unused
bits 1, 3 and 5 keep their values (42_alu.md R140). -/
def FlagsWritten (before after result : Byte) (carry : Bool) : Prop :=
  after.getLsbD 6 = decide (result = 0) ∧ after.getLsbD 7 = result.getLsbD 7 ∧
  after.getLsbD 2 = decide (onesIn result % 2 = 0) ∧ after.getLsbD 0 = carry ∧
  ∀ i ∈ [1, 3, 4, 5], after.getLsbD i = before.getLsbD i

/-- Only the carry bit of the flag byte may change, to `carry` (42_alu.md R161). -/
def OnlyCarryWritten (before after : Byte) (carry : Bool) : Prop :=
  after.getLsbD 0 = carry ∧ ∀ i ∈ [1, 2, 3, 4, 5, 6, 7], after.getLsbD i = before.getLsbD i

/-- An ALU instruction of `len` bytes that leaves `acc` in A and sets the flags of `result`; nothing else changes
(42_alu.md R142). -/
def AluEffect (s t : State) (len : Word) (acc result : Byte) (carry : Bool) : Prop :=
  t = { s with a := acc, f := t.f, pc := s.pc + len } ∧ FlagsWritten s.f t.f result carry

/-- The commands of the premise `NoInspectorWrites`: a read, a dump or Terminate (60_exceptions.md R277). -/
def readsOnly (k : Command) : Bool :=
  match k with
  | .readReg _ | .readPair _ | .readF | .readFlag _ | .readPC | .readSP | .readMem _ | .readRunning | .readThrottle
  | .dumpState | .terminate => true
  | .writeReg _ _ | .writePair _ _ | .writeF _ | .writeFlag _ _ | .writePC _ | .writeSP _ | .writeMem _ _
  | .writeRunning _ | .writeThrottle _ => false

/-- The next turn is the sequencer's, and `turns` are the turns after it: none is scheduled, or the first scheduled one is a
cycle (60_exceptions.md R260, R277; log 4). -/
def SequencerTurn (s : State) (turns : List Turn) : Prop :=
  (s.schedule = [] ∧ turns = []) ∨ s.schedule = .cycle :: turns

/-- The premise `NoInspectorWrites` on the coming turns (60_exceptions.md R277). -/
def NoInspectorWrites (s : State) : Prop :=
  ∀ k, Turn.command k ∈ s.schedule → readsOnly k = true

/-- The fairness assumption that the inspector terminates after finitely many commands: it has, or a Terminate command is
among its finitely many coming turns (60_exceptions.md R277; log 4). The other one, that the sequencer takes a next cycle after
finitely many commands, holds of every `schedule`, which is a finite list with only cycles after it. -/
def InspectorTerminates (s : State) : Prop :=
  s.inspectorDone = true ∨ Turn.command .terminate ∈ s.schedule

/-- The core's own state: what the inspector agent and the oracle hold is blanked (10_state.md R42). -/
def coreState (s : State) : State :=
  { s with inspectorDone := false, schedule := [], replies := [] }

end Sys2Proof
end

