-- ==== Sys2Proof/Certificates/Slice0/Obligations.lean ====
section
/-! DEFINITION. The statements for the provers. Each formalises rules of spec/, named in its docstring and in OBLIGATIONS.json. -/

open Sys2Proof Sys2Proof.Machine

/-- Decoding the encoding of a well-formed instruction gives it back (R80, R81, R82, R83, R84, R87, R88, R89, R90, R91, R92, R93). -/
def Obligations.DecodeOfEncodeGivesInstruction : Prop :=
  ∀ (mode : UnwiredCcMode) (i : Instr) (rest : List Byte), WellFormed mode i = true →
    decode mode (encode i ++ rest) = .ok (i, rest)

/-- What the decoder reads is well formed and encodes to the bytes read (R80, R81, R82, R83, R84, R86). -/
def Obligations.EncodeOfDecodeGivesBytes : Prop :=
  ∀ (mode : UnwiredCcMode) (bytes : List Byte) (i : Instr) (rest : List Byte), decode mode bytes = .ok (i, rest) →
    WellFormed mode i = true ∧ encode i ++ rest = bytes

/-- Exactly the 35 listed bytes, and 12 more in mode Unbound, are undefined opcodes (R86, R95, R201, R202). -/
def Obligations.UndefinedOpcodesAreTheListedBytes : Prop :=
  ∀ (mode : UnwiredCcMode) (op : Byte),
    if op ∈ ([0x08, 0x09, 0x10, 0x18, 0x19, 0x20, 0x27, 0x28, 0x29, 0x2F, 0x30, 0x37,
        0x38, 0x39, 0x3F, 0xC7, 0xCB, 0xCF, 0xD3, 0xD7, 0xD9, 0xDB, 0xDD, 0xDF,
        0xE3, 0xE7, 0xE9, 0xED, 0xEF, 0xF3, 0xF7, 0xF9, 0xFB, 0xFD, 0xFF] : List Byte) ∨
        (mode = .unbound ∧ op ∈ ([0xE0, 0xE2, 0xE4, 0xE8, 0xEA, 0xEC, 0xF0, 0xF2, 0xF4, 0xF8, 0xFA, 0xFC] : List Byte))
    then ∀ rest, decode mode (op :: rest) = .ok (.undefined op, rest)
    else ∀ lo hi x, decodeOp mode op lo hi ≠ .undefined x

/-- The opcode byte alone fixes how many bytes are consumed: the table of lengths (R80, R83, R202). -/
def Obligations.OpcodeByteFixesLength : Prop :=
  ∀ (mode : UnwiredCcMode) (op lo hi : Byte) (rest : List Byte),
    decode mode (op :: lo :: hi :: rest) = .ok (decodeOp mode op lo hi,
      (op :: lo :: hi :: rest).drop
        (if op ∈ ([0x06, 0x0E, 0x16, 0x1E, 0x26, 0x2E, 0x36, 0x3E, 0xC6, 0xCE, 0xD6, 0xDE,
        0xE6, 0xEE, 0xF6, 0xFE] : List Byte) then 2
        else if mode = .unbound ∧ op ∈ ([0xE0, 0xE2, 0xE4, 0xE8, 0xEA, 0xEC, 0xF0, 0xF2, 0xF4, 0xF8, 0xFA, 0xFC] : List Byte) then 1
        else if op ∈ ([0x01, 0x11, 0x21, 0x22, 0x2A, 0x31, 0x32, 0x3A, 0xC2, 0xC3, 0xC4, 0xCA,
        0xCC, 0xCD, 0xD2, 0xD4, 0xDA, 0xDC, 0xE2, 0xE4, 0xEA, 0xEC, 0xF2, 0xF4,
        0xFA, 0xFC] : List Byte) then 3
        else 1))

/-- Some byte sequences of the spec decode to the instructions it says they are (R93, R130, R133, R143, R151, R181, R186, R204, R212, R242, R246, R113). -/
def Obligations.WrittenOutWordsDecode : Prop :=
  let m := UnwiredCcMode.boundNeverTransfer
  decode m [0x3E, 0x05, 0x76] = .ok (.mviA 0x05, [0x76]) ∧ decode m [0x76] = .ok (.hlt, []) ∧
  decode m [0x78] = .ok (.movAB, []) ∧ decode m [0x77] = .ok (.movMA, []) ∧ decode m [0x80] = .ok (.addB, []) ∧
  decode m [0xC6, 0x34] = .ok (.adi 0x34, []) ∧ decode m [0x21, 0x00, 0x20] = .ok (.lxiH 0x2000, []) ∧
  decode m [0xC5] = .ok (.pushB, []) ∧ decode m [0xC2, 0x10, 0x08] = .ok (.jnz 0x0810, []) ∧
  decode m [0xCD, 0x00, 0x09] = .ok (.call 0x0900, []) ∧ decode m [0x3A, 0x00, 0x20] = .ok (.lda 0x2000, []) ∧
  decode m [0xEB] = .ok (.xchg, []) ∧ decode m [0x08, 0x3C] = .ok (.undefined 0x08, [0x3C])

/-- A step runs the instruction that the bytes at pc decode to (R110, R111, R112, R260). -/
def Obligations.StepRunsDecodedInstruction : Prop :=
  ∀ (s : State) (i : Instr) (rest : List Byte) (turns : List Turn),
    s.phase = .running → s.running = true → s.pc.toNat < s.cfg.stackBoundary.toNat →
    decode s.cfg.unwiredCcMode [s.read8 s.pc, s.read8 (s.pc + 1), s.read8 (s.pc + 2)] = .ok (i, rest) →
    (s.schedule = [] → step s = exec i s) ∧
    (s.schedule = .cycle :: turns → step s = exec i { s with schedule := turns })

/-- A cycle that finds running cleared moves the phase to Halted and changes nothing else (R114, R115). -/
def Obligations.ClearedRunningHalts : Prop :=
  ∀ (s : State) (turns : List Turn), SequencerTurn s turns → s.phase = .running → s.running = false →
    step s = .next { s with phase := .halted, schedule := turns }

/-- A cycle that finds pc at or above the boundary moves the phase to OutOfBounds (R114, R116). -/
def Obligations.PcAtBoundaryEndsInOutOfBounds : Prop :=
  ∀ (s : State) (turns : List Turn), SequencerTurn s turns → s.phase = .running → s.running = true →
    s.cfg.stackBoundary.toNat ≤ s.pc.toNat → step s = .next { s with phase := .outOfBounds, schedule := turns }

/-- No step leaves a terminal phase, and the sequencer then changes nothing (R117). -/
def Obligations.TerminalPhaseIsKept : Prop :=
  ∀ s t : State, s.phase ≠ .running → step s = .next t →
    t.phase = s.phase ∧
    ((∀ k rest, s.schedule ≠ .command k :: rest) → coreState t = coreState s)

/-- The phase changes only from Running, by the two terminal checks in their order (R39, R114, R115, R116, R120). -/
def Obligations.PhaseChangesOnlyAtTheTerminalChecks : Prop :=
  ∀ s t : State, step s = .next t → t.phase ≠ s.phase →
    s.phase = .running ∧
    ((s.running = false ∧ t.phase = .halted) ∨
      (s.running = true ∧ s.cfg.stackBoundary.toNat ≤ s.pc.toNat ∧ t.phase = .outOfBounds))

/-- Every step of every state completes and consumes its turn, and a fair inspector terminates after finitely many steps (R120, R250, R301, R44, R277, R272). -/
def Obligations.EveryStepAnswersNextState : Prop :=
  ∀ s : State,
    (∃ t, step s = .next t ∧ t.cfg = s.cfg ∧ t.schedule = s.schedule.tail ∧
      (s.inspectorDone = true → t.inspectorDone = true) ∧ (InspectorTerminates s → InspectorTerminates t)) ∧
    (InspectorTerminates s → ∃ t, Host.Core.run Sys2Proof.core s.schedule.length s = .next t ∧
      t.schedule = [] ∧ t.inspectorDone = true)

/-- Every instruction completes from every state; only HLT writes running, only an undefined opcode reports (R112, R113, R120, R250). -/
def Obligations.EveryInstructionCompletes : Prop :=
  ∀ (i : Instr) (s : State), ∃ t, exec i s = .next t ∧
    t.phase = s.phase ∧ t.throttle = s.throttle ∧ t.cfg = s.cfg ∧
    t.inspectorDone = s.inspectorDone ∧ t.schedule = s.schedule ∧ t.replies = s.replies ∧
    (familyOf i ≠ .hlt → t.running = s.running) ∧ (familyOf i ≠ .undefined → t.reports = s.reports)

/-- Every step keeps the memory in canonical form (R50, R52, R53, R268). -/
def Obligations.StepKeepsMemoryCanonical : Prop :=
  ∀ s t : State, s.mem.wf → step s = .next t → t.mem.wf

/-- The memory at reset is in canonical form (R43, R290). -/
def Obligations.ResetMemoryIsCanonical : Prop :=
  State.reset.mem.wf ∧ (∀ cfg turns, (State.resetWith cfg turns).mem.wf) ∧
    State.boot Config.standard [] (some []) = .next State.reset

/-- Without inspector writes, a command leaves the core state and a sequencer turn is the step of the core state alone (R121, R260, R277). -/
def Obligations.InspectorReadsLeaveCoreStepUnchanged : Prop :=
  ∀ s t : State, NoInspectorWrites s → step s = .next t →
    NoInspectorWrites t ∧
    (∀ k turns, s.schedule = .command k :: turns → coreState t = coreState s) ∧
    (∀ turns, SequencerTurn s turns → step (coreState s) = .next (coreState t))

/-- A store to the bytes at pc is what the next fetch reads, across 0xFFFF too (R64, R84, R298). -/
def Obligations.StoresIntoInstructionBytesAreFetched : Prop :=
  ∀ (s : State) (op lo hi : Byte),
    (s.storeBytes s.pc [op, lo, hi]).instrAt = decodeOp s.cfg.unwiredCcMode op lo hi

/-- A register field reads and writes its register, or the byte at H:L for M, and nothing else (R23). -/
def Obligations.OperandResolution : Prop :=
  ∀ (s : State) (v : Byte),
    s.operand .m = s.mem.read (s.h.toNat * 256 + s.l.toNat) ∧ (∀ r, s.operand (.reg r) = s.reg r) ∧
    (∀ x, (s.setOperand x v).operand x = v) ∧
    (∀ r q, q ≠ r → (s.setOperand (.reg r) v).reg q = s.reg q) ∧
    (∀ r, { s.setOperand (.reg r) v with
      b := s.b, c := s.c, d := s.d, e := s.e, h := s.h, l := s.l, a := s.a } = s) ∧
    (∀ q, (s.setOperand .m v).mem.read q = if q = s.h.toNat * 256 + s.l.toNat then v else s.mem.read q) ∧
    { s.setOperand .m v with mem := s.mem } = s

/-- A pair view reads back what was written, and its halves are the single registers (R26, R31). -/
def Obligations.PairViewsReadWhatWasWritten : Prop :=
  ∀ (s : State) (v : Word),
    (∀ p, (s.setPair p v).pair p = v) ∧ (∀ p, (s.setStackPair p v).stackPair p = v) ∧
    (s.setPair .bc v).b.toNat = v.toNat / 256 ∧ (s.setPair .bc v).c.toNat = v.toNat % 256 ∧
    (s.setPair .de v).d.toNat = v.toNat / 256 ∧ (s.setPair .de v).e.toNat = v.toNat % 256 ∧
    (s.setPair .hl v).h.toNat = v.toNat / 256 ∧ (s.setPair .hl v).l.toNat = v.toNat % 256 ∧
    (s.setPair .sp v).sp = v ∧
    (s.setStackPair .psw v).a.toNat = v.toNat / 256 ∧ (s.setStackPair .psw v).f.toNat = v.toNat % 256 ∧
    (s.pair .bc).toNat = s.b.toNat * 256 + s.c.toNat ∧ (s.pair .de).toNat = s.d.toNat * 256 + s.e.toNat ∧
    (s.pair .hl).toNat = s.h.toNat * 256 + s.l.toNat ∧ (s.stackPair .psw).toNat = s.a.toNat * 256 + s.f.toNat ∧
    (∀ w, ({ s with b := w }).pair .bc = mk16 w s.c ∧ ({ s with c := w }).pair .bc = mk16 s.b w) ∧
    (∀ w, ({ s with d := w }).pair .de = mk16 w s.e ∧ ({ s with e := w }).pair .de = mk16 s.d w) ∧
    (∀ w, ({ s with h := w }).pair .hl = mk16 w s.l ∧ ({ s with l := w }).pair .hl = mk16 s.h w) ∧
    exec .pushPsw s = .next ((({ s with pc := s.pc + 1, sp := s.sp - 2 }).write8 (s.sp - 1) s.a).write8 (s.sp - 2) s.f) ∧
    exec .popPsw s = .next { s with pc := s.pc + 1, sp := s.sp + 2, f := s.read8 s.sp, a := s.read8 (s.sp + 1) }

/-- A byte reads what was last written to it, every address is writable, and unwritten bytes read 0x00 (R51, R52, R53, R43, R290). -/
def Obligations.MemoryReadsLastWrite : Prop :=
  ∀ (s : State) (x q : Word) (v : Byte),
    (s.write8 x v).read8 q = (if q = x then v else s.read8 q) ∧ { s.write8 x v with mem := s.mem } = s ∧
    (∀ cfg turns, (State.resetWith cfg turns).read8 q = 0) ∧
    ∀ (cfg : Config) (turns : List Turn) (image : List Byte) (t : State), State.boot cfg turns (some image) = .next t →
      q.toNat < cfg.loadAddr.toNat ∨ cfg.loadAddr.toNat + image.length ≤ q.toNat → t.read8 q = 0

/-- A 16-bit access is two bytes, low byte first, the second address modulo 65536 (R54, R55, R56, R57). -/
def Obligations.SixteenBitAccessesAreLittleEndian : Prop :=
  ∀ (s : State) (x v : Word),
    (s.read16 x).toNat = (s.read8 (x + 1)).toNat * 256 + (s.read8 x).toNat ∧
    (s.write16 x v).read8 x = loByte v ∧ (s.write16 x v).read8 (x + 1) = hiByte v ∧
    (∀ q, q ≠ x → q ≠ x + 1 → (s.write16 x v).read8 q = s.read8 q) ∧
    (s.write16 x v).read16 x = v ∧ (s.read16 0xFFFF).toNat = (s.read8 0).toNat * 256 + (s.read8 0xFFFF).toNat

/-- push16 stores the high byte above the low byte below the old sp, and pop16 undoes it (R180). -/
def Obligations.StackPushThenPop : Prop :=
  ∀ (s : State) (v : Word),
    (s.push16 v).sp = s.sp - 2 ∧ (s.push16 v).read8 (s.sp - 1) = hiByte v ∧
    (s.push16 v).read8 (s.sp - 2) = loByte v ∧ (s.push16 v).read16 (s.sp - 2) = v ∧
    (∀ q, q ≠ s.sp - 1 → q ≠ s.sp - 2 → (s.push16 v).read8 q = s.read8 q) ∧
    { s.push16 v with sp := s.sp, mem := s.mem } = s ∧
    (s.push16 v).pop16 = (v, { s with mem := (s.push16 v).mem }) ∧
    s.pop16 = (mk16 (s.read8 (s.sp + 1)) (s.read8 s.sp), { s with sp := s.sp + 2 })

/-- MOV d,s copies a register; d, pc and nothing else change (R130). -/
def Obligations.MovRegisterToRegister : Prop :=
  ∀ (dst src : Reg) (s : State),
    encode (mkMov (.reg dst) (.reg src)) = [(0b01#2 ++ regId dst ++ regId src : BitVec 8)] ∧
    exec (mkMov (.reg dst) (.reg src)) s = .next ({ s with pc := s.pc + 1 }.setReg dst (s.reg src))

/-- MOV d,M loads the byte at the old H:L; MOV M,s stores at H:L (R131, R132). -/
def Obligations.MovWithMemory : Prop :=
  ∀ (r : Reg) (s : State),
    encode (mkMov (.reg r) .m) = [(0b01#2 ++ regId r ++ 0b110#3 : BitVec 8)] ∧
    exec (mkMov (.reg r) .m) s = .next ({ s with pc := s.pc + 1 }.setReg r (s.read8 (mk16 s.h s.l))) ∧
    encode (mkMov .m (.reg r)) = [(0b01110#5 ++ regId r : BitVec 8)] ∧
    exec (mkMov .m (.reg r)) s =
      .next { s with pc := s.pc + 1, mem := s.mem.write (mk16 s.h s.l).toNat (s.reg r) }

/-- MVI loads the immediate byte into a register or into the byte at H:L (R133, R134). -/
def Obligations.MviLoadsImmediate : Prop :=
  ∀ (dst : Reg) (v : Byte) (s : State),
    encode (mkMvi (.reg dst) v) = [(0b00#2 ++ regId dst ++ 0b110#3 : BitVec 8), v] ∧
    exec (mkMvi (.reg dst) v) s = .next ({ s with pc := s.pc + 2 }.setReg dst v) ∧
    encode (.mviM v) = [0x36, v] ∧
    exec (.mviM v) s = .next { s with pc := s.pc + 2, mem := s.mem.write (mk16 s.h s.l).toNat v }

/-- ADD, ADC, ADI, ACI: A is the sum modulo 256 and CY says whether it exceeds 0xFF (R143, R144, R151, R152). -/
def Obligations.AddWithAndWithoutCarry : Prop :=
  ∀ s : State,
    (∀ x, encode (mkAlu .add x) = [(0b10#2 ++ aluId .add ++ locId x : BitVec 8)] ∧
      ∃ t r, exec (mkAlu .add x) s = .next t ∧ r.toNat = (s.a.toNat + (s.operand x).toNat) % 256 ∧
        AluEffect s t 1 r r (decide (255 < s.a.toNat + (s.operand x).toNat))) ∧
    (∀ v, encode (.adi v) = [0xC6, v] ∧
      ∃ t r, exec (.adi v) s = .next t ∧ r.toNat = (s.a.toNat + v.toNat) % 256 ∧
        AluEffect s t 2 r r (decide (255 < s.a.toNat + v.toNat))) ∧
    (∀ x, encode (mkAlu .adc x) = [(0b10#2 ++ aluId .adc ++ locId x : BitVec 8)] ∧
      ∃ t r, exec (mkAlu .adc x) s = .next t ∧ r.toNat = (s.a.toNat + (s.operand x).toNat + (s.flag .cy).toNat) % 256 ∧
        AluEffect s t 1 r r (decide (255 < s.a.toNat + (s.operand x).toNat + (s.flag .cy).toNat))) ∧
    (∀ v, encode (.aci v) = [0xCE, v] ∧
      ∃ t r, exec (.aci v) s = .next t ∧ r.toNat = (s.a.toNat + v.toNat + (s.flag .cy).toNat) % 256 ∧
        AluEffect s t 2 r r (decide (255 < s.a.toNat + v.toNat + (s.flag .cy).toNat)))

/-- SUB, SBB, SUI, SBI: A is the difference modulo 256 and CY is the borrow (R145, R146, R153, R154). -/
def Obligations.SubtractWithAndWithoutBorrow : Prop :=
  ∀ s : State,
    (∀ x, encode (mkAlu .sub x) = [(0b10#2 ++ aluId .sub ++ locId x : BitVec 8)] ∧
      ∃ t r, exec (mkAlu .sub x) s = .next t ∧ r.toNat = (s.a.toNat + 256 - (s.operand x).toNat) % 256 ∧
        AluEffect s t 1 r r (decide (s.a.toNat < (s.operand x).toNat))) ∧
    (∀ v, encode (.sui v) = [0xD6, v] ∧
      ∃ t r, exec (.sui v) s = .next t ∧ r.toNat = (s.a.toNat + 256 - v.toNat) % 256 ∧
        AluEffect s t 2 r r (decide (s.a.toNat < v.toNat))) ∧
    (∀ x, encode (mkAlu .sbb x) = [(0b10#2 ++ aluId .sbb ++ locId x : BitVec 8)] ∧
      ∃ t r, exec (mkAlu .sbb x) s = .next t ∧ r.toNat = (s.a.toNat + 256 - ((s.operand x).toNat + (s.flag .cy).toNat)) % 256 ∧
        AluEffect s t 1 r r (decide (s.a.toNat < (s.operand x).toNat + (s.flag .cy).toNat))) ∧
    (∀ v, encode (.sbi v) = [0xDE, v] ∧
      ∃ t r, exec (.sbi v) s = .next t ∧ r.toNat = (s.a.toNat + 256 - (v.toNat + (s.flag .cy).toNat)) % 256 ∧
        AluEffect s t 2 r r (decide (s.a.toNat < v.toNat + (s.flag .cy).toNat)))

/-- ANA, XRA, ORA and their immediate forms: bitwise result in A, CY cleared (R147, R148, R149, R155, R156, R157). -/
def Obligations.LogicalOperationsClearCarry : Prop :=
  ∀ s : State,
    (∀ x, encode (mkAlu .ana x) = [(0b10#2 ++ aluId .ana ++ locId x : BitVec 8)] ∧
      ∃ t, exec (mkAlu .ana x) s = .next t ∧
        AluEffect s t 1 (s.a &&& s.operand x) (s.a &&& s.operand x) false) ∧
    (∀ v, encode (.ani v) = [0xE6, v] ∧
      ∃ t, exec (.ani v) s = .next t ∧ AluEffect s t 2 (s.a &&& v) (s.a &&& v) false) ∧
    (∀ x, encode (mkAlu .xra x) = [(0b10#2 ++ aluId .xra ++ locId x : BitVec 8)] ∧
      ∃ t, exec (mkAlu .xra x) s = .next t ∧
        AluEffect s t 1 (s.a ^^^ s.operand x) (s.a ^^^ s.operand x) false) ∧
    (∀ v, encode (.xri v) = [0xEE, v] ∧
      ∃ t, exec (.xri v) s = .next t ∧ AluEffect s t 2 (s.a ^^^ v) (s.a ^^^ v) false) ∧
    (∀ x, encode (mkAlu .ora x) = [(0b10#2 ++ aluId .ora ++ locId x : BitVec 8)] ∧
      ∃ t, exec (mkAlu .ora x) s = .next t ∧
        AluEffect s t 1 (s.a ||| s.operand x) (s.a ||| s.operand x) false) ∧
    (∀ v, encode (.ori v) = [0xF6, v] ∧
      ∃ t, exec (.ori v) s = .next t ∧ AluEffect s t 2 (s.a ||| v) (s.a ||| v) false)

/-- CMP and CPI set the flags of A - v and leave A (R150, R158). -/
def Obligations.CompareSetsFlagsOnly : Prop :=
  ∀ s : State,
    (∀ x, encode (mkAlu .cmp x) = [(0b10111#5 ++ locId x : BitVec 8)] ∧
      ∃ t r, exec (mkAlu .cmp x) s = .next t ∧ r.toNat = (s.a.toNat + 256 - (s.operand x).toNat) % 256 ∧
        AluEffect s t 1 s.a r (decide (s.a.toNat < (s.operand x).toNat)) ∧ t.flag .z = decide (s.a = s.operand x)) ∧
    (∀ v, encode (.cpi v) = [0xFE, v] ∧
      ∃ t r, exec (.cpi v) s = .next t ∧ r.toNat = (s.a.toNat + 256 - v.toNat) % 256 ∧
        AluEffect s t 2 s.a r (decide (s.a.toNat < v.toNat)) ∧ t.flag .z = decide (s.a = v))

/-- INR and DCR: the operand plus or minus 1 modulo 256, Z, S and P of it, CY kept (R159, R160). -/
def Obligations.IncrementAndDecrementKeepCarry : Prop :=
  ∀ (x : Loc) (s : State),
    encode (mkInr x) = [(0b00#2 ++ locId x ++ 0b100#3 : BitVec 8)] ∧
    (∃ fl r, exec (mkInr x) s = .next ({ s with pc := s.pc + 1, f := fl }.setOperand x r) ∧
      r.toNat = ((s.operand x).toNat + 1) % 256 ∧ FlagsWritten s.f fl r (s.flag .cy)) ∧
    encode (mkDcr x) = [(0b00#2 ++ locId x ++ 0b101#3 : BitVec 8)] ∧
    (∃ fl r, exec (mkDcr x) s = .next ({ s with pc := s.pc + 1, f := fl }.setOperand x r) ∧
      r.toNat = ((s.operand x).toNat + 255) % 256 ∧ FlagsWritten s.f fl r (s.flag .cy))

/-- RLC, RRC, RAL, RAR: the rotated accumulator in A, the bit that left it in CY, nothing else (R162, R163, R164, R165). -/
def Obligations.RotatesMoveAccumulatorAndCarry : Prop :=
  ∀ s : State,
    encode .rlc = [0x07] ∧
    (∃ acc fl, exec .rlc s = .next { s with a := acc, f := fl, pc := s.pc + 1 } ∧
      acc.toNat = (2 * s.a.toNat + s.a.toNat / 128) % 256 ∧ OnlyCarryWritten s.f fl (decide (s.a.toNat / 128 = 1))) ∧
    encode .rrc = [0x0F] ∧
    (∃ acc fl, exec .rrc s = .next { s with a := acc, f := fl, pc := s.pc + 1 } ∧
      acc.toNat = s.a.toNat / 2 + 128 * (s.a.toNat % 2) ∧ OnlyCarryWritten s.f fl (decide (s.a.toNat % 2 = 1))) ∧
    encode .ral = [0x17] ∧
    (∃ acc fl, exec .ral s = .next { s with a := acc, f := fl, pc := s.pc + 1 } ∧
      acc.toNat = (2 * s.a.toNat + (s.flag .cy).toNat) % 256 ∧ OnlyCarryWritten s.f fl (decide (s.a.toNat / 128 = 1))) ∧
    encode .rar = [0x1F] ∧
    (∃ acc fl, exec .rar s = .next { s with a := acc, f := fl, pc := s.pc + 1 } ∧
      acc.toNat = s.a.toNat / 2 + 128 * (s.flag .cy).toNat ∧ OnlyCarryWritten s.f fl (decide (s.a.toNat % 2 = 1)))

/-- LXI loads a 16-bit immediate, low byte first, into BC, DE, HL or SP (R181). -/
def Obligations.LxiLoadsPair : Prop :=
  ∀ (p : Pair) (v : Word) (s : State),
    encode (mkLxi p v) = [(0b00#2 ++ pairId p ++ 0b0001#4 : BitVec 8), loByte v, hiByte v] ∧
    exec (mkLxi p v) s = .next ({ s with pc := s.pc + 3 }.setPair p v)

/-- LDAX loads A from, and STAX stores A at, the address in BC or DE (R182, R183). -/
def Obligations.LdaxAndStaxGoThroughPair : Prop :=
  ∀ (p : IndPair) (s : State),
    encode (mkLdax p) = [(0b000#3 ++ indPairId p ++ 0b1010#4 : BitVec 8)] ∧
    exec (mkLdax p) s = .next { s with pc := s.pc + 1, a := s.read8 (s.indPair p) } ∧
    encode (mkStax p) = [(0b000#3 ++ indPairId p ++ 0b0010#4 : BitVec 8)] ∧
    exec (mkStax p) s = .next { s with pc := s.pc + 1, mem := s.mem.write (s.indPair p).toNat s.a } ∧
    s.indPair .bc = mk16 s.b s.c ∧ s.indPair .de = mk16 s.d s.e

/-- INX and DCX add or subtract 1 modulo 65536 on a pair and change no flag (R184, R185). -/
def Obligations.InxAndDcxWrapWithoutFlags : Prop :=
  ∀ (p : Pair) (s : State),
    encode (mkInx p) = [(0b00#2 ++ pairId p ++ 0b0011#4 : BitVec 8)] ∧
    encode (mkDcx p) = [(0b00#2 ++ pairId p ++ 0b1011#4 : BitVec 8)] ∧
    ∃ up down : Word, up.toNat = ((s.pair p).toNat + 1) % 65536 ∧ down.toNat = ((s.pair p).toNat + 65535) % 65536 ∧
      exec (mkInx p) s = .next ({ s with pc := s.pc + 1 }.setPair p up) ∧
      exec (mkDcx p) s = .next ({ s with pc := s.pc + 1 }.setPair p down)

/-- PUSH stores the high byte at sp-1 and the low byte at sp-2 (R186). -/
def Obligations.PushStoresPair : Prop :=
  ∀ (p : StackPair) (s : State),
    encode (mkPush p) = [(0b11#2 ++ stackPairId p ++ 0b0101#4 : BitVec 8)] ∧
    exec (mkPush p) s = .next { s with
      pc := s.pc + 1
      sp := s.sp - 2
      mem := (s.mem.write (s.sp - 1).toNat (hiByte (s.stackPair p))).write (s.sp - 2).toNat (loByte (s.stackPair p)) }

/-- POP loads the low register from sp and the high register from sp+1; POP PSW loads F and A (R187, R188). -/
def Obligations.PopLoadsPair : Prop :=
  ∀ (p : StackPair) (s : State),
    encode (mkPop p) = [(0b11#2 ++ stackPairId p ++ 0b0001#4 : BitVec 8)] ∧
    exec (mkPop p) s = .next ({ s with pc := s.pc + 1, sp := s.sp + 2 }.setStackPair p
      (mk16 (s.read8 (s.sp + 1)) (s.read8 s.sp))) ∧
    exec .popPsw s = .next { s with pc := s.pc + 1, sp := s.sp + 2, f := s.read8 s.sp, a := s.read8 (s.sp + 1) }

/-- PUSH then POP of the same pair restores the pair and sp (R180, R186, R187, R188). -/
def Obligations.PushThenPopRestoresPair : Prop :=
  ∀ (p : StackPair) (s : State), ∃ t, exec (mkPush p) s = .next t ∧
    exec (mkPop p) t = .next { s with pc := s.pc + 2, mem := t.mem }

/-- JMP and the wired conditional jumps go to the target where the condition holds, else pass 3 bytes (R203, R204, R205, R206, R207). -/
def Obligations.JumpsGoToTarget : Prop :=
  ∀ (a : Word) (s : State),
    encode (.jmp a) = [0xC3, loByte a, hiByte a] ∧ exec (.jmp a) s = .next { s with pc := a } ∧
    encode (.jnz a) = [0xC2, loByte a, hiByte a] ∧
    exec (.jnz a) s = .next { s with pc := if s.f.getLsbD 6 = false then a else s.pc + 3 } ∧
    encode (.jz a) = [0xCA, loByte a, hiByte a] ∧
    exec (.jz a) s = .next { s with pc := if s.f.getLsbD 6 = true then a else s.pc + 3 } ∧
    encode (.jnc a) = [0xD2, loByte a, hiByte a] ∧
    exec (.jnc a) s = .next { s with pc := if s.f.getLsbD 0 = false then a else s.pc + 3 } ∧
    encode (.jc a) = [0xDA, loByte a, hiByte a] ∧
    exec (.jc a) s = .next { s with pc := if s.f.getLsbD 0 = true then a else s.pc + 3 }

/-- CALL and the wired conditional calls push the address after the operand bytes and go to the target (R212, R213, R214, R215, R216). -/
def Obligations.CallsPushReturnAddress : Prop :=
  ∀ (a : Word) (s : State),
    encode (.call a) = [0xCD, loByte a, hiByte a] ∧ exec (.call a) s = .next { s with
      pc := a
      sp := s.sp - 2
      mem := (s.mem.write (s.sp - 1).toNat (hiByte (s.pc + 3))).write (s.sp - 2).toNat (loByte (s.pc + 3)) } ∧
    encode (.cnz a) = [0xC4, loByte a, hiByte a] ∧
    exec (.cnz a) s = (if s.f.getLsbD 6 = false then exec (.call a) s else .next { s with pc := s.pc + 3 }) ∧
    encode (.cz a) = [0xCC, loByte a, hiByte a] ∧
    exec (.cz a) s = (if s.f.getLsbD 6 = true then exec (.call a) s else .next { s with pc := s.pc + 3 }) ∧
    encode (.cnc a) = [0xD4, loByte a, hiByte a] ∧
    exec (.cnc a) s = (if s.f.getLsbD 0 = false then exec (.call a) s else .next { s with pc := s.pc + 3 }) ∧
    encode (.cc a) = [0xDC, loByte a, hiByte a] ∧
    exec (.cc a) s = (if s.f.getLsbD 0 = true then exec (.call a) s else .next { s with pc := s.pc + 3 })

/-- RET and the wired conditional returns pop pc, low byte first (R221, R222, R223, R224, R225). -/
def Obligations.ReturnsPopTarget : Prop :=
  ∀ s : State,
    encode .ret = [0xC9] ∧
    exec .ret s = .next { s with pc := mk16 (s.read8 (s.sp + 1)) (s.read8 s.sp), sp := s.sp + 2 } ∧
    encode .rnz = [0xC0] ∧
    exec .rnz s = (if s.f.getLsbD 6 = false then exec .ret s else .next { s with pc := s.pc + 1 }) ∧
    encode .rz = [0xC8] ∧
    exec .rz s = (if s.f.getLsbD 6 = true then exec .ret s else .next { s with pc := s.pc + 1 }) ∧
    encode .rnc = [0xD0] ∧
    exec .rnc s = (if s.f.getLsbD 0 = false then exec .ret s else .next { s with pc := s.pc + 1 }) ∧
    encode .rc = [0xD8] ∧
    exec .rc s = (if s.f.getLsbD 0 = true then exec .ret s else .next { s with pc := s.pc + 1 })

/-- Jumps, calls and returns on PO, PE, P and M never transfer, whatever the flags (R208, R209, R210, R211, R217, R218, R219, R220, R226, R227, R228, R229). -/
def Obligations.UnwiredConditionsNeverTransfer : Prop :=
  ∀ (k : Cond) (a : Word) (s : State), k ∈ [Cond.po, .pe, .p, .m] →
    encode (mkJcc k a) = [(0b11#2 ++ condId k ++ 0b010#3 : BitVec 8), loByte a, hiByte a] ∧
    exec (mkJcc k a) s = .next { s with pc := s.pc + 3 } ∧
    encode (mkCcc k a) = [(0b11#2 ++ condId k ++ 0b100#3 : BitVec 8), loByte a, hiByte a] ∧
    exec (mkCcc k a) s = .next { s with pc := s.pc + 3 } ∧
    encode (mkRcc k) = [(0b11#2 ++ condId k ++ 0b000#3 : BitVec 8)] ∧
    exec (mkRcc k) s = .next { s with pc := s.pc + 1 } ∧
    ∀ low ∈ [0b010#3, 0b100#3, 0b000#3], ∀ rest,
      decode .unbound ((0b11#2 ++ condId k ++ low : BitVec 8) :: rest) =
        .ok (.undefined (0b11#2 ++ condId k ++ low : BitVec 8), rest)

/-- CALL then RET restores pc to the address after the CALL and sp to its value before it (R180, R212, R221). -/
def Obligations.CallThenReturnRestores : Prop :=
  ∀ (a : Word) (s : State), ∃ t, exec (.call a) s = .next t ∧ t.pc = a ∧
    exec .ret t = .next { s with pc := s.pc + 3, mem := t.mem }

/-- NOP only moves pc; HLT clears running, and the next cycle ends in Halted (R240, R241, R115). -/
def Obligations.NopAndHlt : Prop :=
  ∀ s : State,
    encode .nop = [0x00] ∧ exec .nop s = .next { s with pc := s.pc + 1 } ∧
    encode .hlt = [0x76] ∧ exec .hlt s = .next { s with pc := s.pc + 1, running := false } ∧
    (∀ turns, SequencerTurn s turns → s.phase = .running → step { s with pc := s.pc + 1, running := false } =
      .next { s with pc := s.pc + 1, running := false, phase := .halted, schedule := turns })

/-- LDA, STA, LHLD and SHLD load and store at a 16-bit address, L at the lower address (R242, R243, R244, R245). -/
def Obligations.DirectLoadsAndStores : Prop :=
  ∀ (a : Word) (s : State),
    encode (.lda a) = [0x3A, loByte a, hiByte a] ∧
    exec (.lda a) s = .next { s with pc := s.pc + 3, a := s.read8 a } ∧
    encode (.sta a) = [0x32, loByte a, hiByte a] ∧
    exec (.sta a) s = .next { s with pc := s.pc + 3, mem := s.mem.write a.toNat s.a } ∧
    encode (.lhld a) = [0x2A, loByte a, hiByte a] ∧
    exec (.lhld a) s = .next { s with pc := s.pc + 3, l := s.read8 a, h := s.read8 (a + 1) } ∧
    encode (.shld a) = [0x22, loByte a, hiByte a] ∧
    exec (.shld a) s = .next { s with
      pc := s.pc + 3, mem := (s.mem.write a.toNat s.l).write (a + 1).toNat s.h }

/-- XCHG swaps H with D and L with E; twice it restores both pairs (R246). -/
def Obligations.XchgSwapsHlAndDe : Prop :=
  ∀ s : State,
    encode .xchg = [0xEB] ∧
    exec .xchg s = .next { s with pc := s.pc + 1, h := s.d, d := s.h, l := s.e, e := s.l } ∧
    exec .xchg { s with pc := s.pc + 1, h := s.d, d := s.h, l := s.e, e := s.l } =
      .next { s with pc := s.pc + 1 + 1 }

/-- An undefined opcode is a 1-byte no-op that appends one report with its address and byte (R113, R95, R202). -/
def Obligations.UndefinedOpcodeReports : Prop :=
  ∀ s : State,
    (∀ op, exec (.undefined op) s = .next { s with pc := s.pc + 1, reports := s.reports ++ [⟨s.pc, op⟩] }) ∧
    (∀ turns, SequencerTurn s turns → s.phase = .running → s.running = true →
      s.pc.toNat < s.cfg.stackBoundary.toNat → isUndefinedOpcode s.cfg.unwiredCcMode (s.read8 s.pc) = true →
      step s = .next { s with
        pc := s.pc + 1, reports := s.reports ++ [⟨s.pc, s.read8 s.pc⟩], schedule := turns })

/-- No instruction but the ALU forms, INR, DCR, the rotates and POP PSW changes F (R28). -/
def Obligations.OnlyListedFamiliesWriteFlags : Prop :=
  ∀ (i : Instr) (s t : State), exec i s = .next t →
    familyOf i ∉ [Family.alu, .aluImm, .inr, .dcr, .rotate, .popPsw] → t.f = s.f

/-- No instruction but POP PSW changes AC or the unused flag bits 1, 3 and 5 (R29, R140, R141, R188). -/
def Obligations.AuxCarryAndUnusedBitsOnlyByPopPsw : Prop :=
  ∀ (i : Instr) (s t : State), exec i s = .next t → i ≠ .popPsw →
    ∀ j ∈ [1, 3, 4, 5], t.f.getLsbD j = s.f.getLsbD j

/-- No instruction but LXI, INX, DCX on SP, PUSH, POP, calls and returns changes sp (R37). -/
def Obligations.OnlyListedInstructionsWriteSp : Prop :=
  ∀ (i : Instr) (s t : State), exec i s = .next t →
    familyOf i ∉ [Family.push, .pop, .popPsw, .call, .ccc, .ret, .rcc] →
    i ≠ .inxSp → i ≠ .dcxSp → (∀ v, i ≠ .lxiSp v) → t.sp = s.sp

/-- An instruction that is no jump, call or return leaves pc at the next instruction (R33, R83, R111). -/
def Obligations.PcPassesInstructionUnlessTransfer : Prop :=
  ∀ (i : Instr) (s t : State), exec i s = .next t →
    familyOf i ∉ [Family.jmp, .jcc, .call, .ccc, .ret, .rcc] → t.pc = s.pc + BitVec.ofNat 16 (encode i).length

/-- Every instruction leaves every byte of memory it does not store to unchanged (R58). -/
def Obligations.MemoryChangesOnlyWhereStored : Prop :=
  ∀ (i : Instr) (s t : State), exec i s = .next t → ∀ q, q ∉ storesTo i s → t.read8 q = s.read8 q

/-- A step whose turn is a command performs that command and records its reply (R260, R261, R272). -/
def Obligations.CommandTurnIsOneStep : Prop :=
  ∀ (s : State) (k : Command) (rest : List Turn), s.schedule = .command k :: rest →
    (s.inspectorDone = false → step s = .next { (inspect k { s with schedule := rest }).2 with
      replies := s.replies ++ [(inspect k { s with schedule := rest }).1] }) ∧
    (s.inspectorDone = true → step s = .next { s with schedule := rest })

/-- The port reads and writes the seven registers by identifier; 6 and 8 or more fail (R262, R263). -/
def Obligations.RegisterCommands : Prop :=
  ∀ (s : State) (v : Byte),
    (∀ r : Reg, inspect (.readReg (regId r).toNat) s = (.byte (s.reg r), s) ∧
      inspect (.writeReg (regId r).toNat v) s = (.done, s.setReg r v)) ∧
    ∀ id, id = 6 ∨ 8 ≤ id → inspect (.readReg id) s = (.failed .invalidRegister, s) ∧
      inspect (.writeReg id v) s = (.failed .invalidRegister, s)

/-- The port reads and writes the five pairs, a pair reading back what was written; others fail (R264, R265). -/
def Obligations.PairCommands : Prop :=
  ∀ (s : State) (v : Word),
    inspect (.readPair 0) s = (.word (mk16 s.b s.c), s) ∧ inspect (.readPair 1) s = (.word (mk16 s.d s.e), s) ∧
    inspect (.readPair 2) s = (.word (mk16 s.h s.l), s) ∧ inspect (.readPair 3) s = (.word s.sp, s) ∧
    inspect (.readPair 4) s = (.word (mk16 s.a s.f), s) ∧
    inspect (.writePair 0 v) s = (.done, { s with b := hiByte v, c := loByte v }) ∧
    inspect (.writePair 1 v) s = (.done, { s with d := hiByte v, e := loByte v }) ∧
    inspect (.writePair 2 v) s = (.done, { s with h := hiByte v, l := loByte v }) ∧
    inspect (.writePair 3 v) s = (.done, { s with sp := v }) ∧
    inspect (.writePair 4 v) s = (.done, { s with a := hiByte v, f := loByte v }) ∧
    (∀ q, q < 5 → (inspect (.readPair q) (inspect (.writePair q v) s).2).1 = .word v) ∧
    ∀ q, 5 ≤ q → inspect (.readPair q) s = (.failed .invalidPair, s) ∧
      inspect (.writePair q v) s = (.failed .invalidPair, s)

/-- The port reads and writes F whole, and each named flag as one bit of it; another name fails (R266). -/
def Obligations.FlagCommands : Prop :=
  ∀ (s : State) (v : Byte) (x : Bool),
    inspect .readF s = (.byte s.f, s) ∧ inspect (.writeF v) s = (.done, { s with f := v }) ∧
    (∀ p ∈ [(Flag.cy, 0), (.p, 2), (.ac, 4), (.z, 6), (.s, 7)],
      inspect (.readFlag (some p.1)) s = (.bool (s.f.getLsbD p.2), s) ∧
      ∃ fl, inspect (.writeFlag (some p.1) x) s = (.done, { s with f := fl }) ∧
        ∀ j < 8, fl.getLsbD j = if j = p.2 then x else s.f.getLsbD j) ∧
    inspect (.readFlag none) s = (.failed .invalidRegister, s) ∧
    inspect (.writeFlag none x) s = (.failed .invalidRegister, s)

/-- The port reads and writes any byte from 0x0000 to 0xFFFF; a higher address fails (R268). -/
def Obligations.MemoryCommands : Prop :=
  ∀ (s : State) (x : Nat) (v : Byte),
    (x ≤ 0xFFFF → inspect (.readMem x) s = (.byte (s.mem.read x), s) ∧
      ∃ m, inspect (.writeMem x v) s = (.done, { s with mem := m }) ∧
        ∀ q, m.read q = if q = x then v else s.mem.read q) ∧
    (0xFFFF < x → inspect (.readMem x) s = (.failed .invalidAddress, s) ∧
      inspect (.writeMem x v) s = (.failed .invalidAddress, s))

/-- The port reads and writes pc, sp, running and throttle; clearing and setting running act as stated (R267, R269, R270). -/
def Obligations.ControlRegisterCommands : Prop :=
  ∀ (s : State) (w : Word) (x : Bool) (n : Nat),
    inspect .readPC s = (.word s.pc, s) ∧ inspect (.writePC w) s = (.done, { s with pc := w }) ∧
    inspect .readSP s = (.word s.sp, s) ∧ inspect (.writeSP w) s = (.done, { s with sp := w }) ∧
    inspect .readRunning s = (.bool s.running, s) ∧
    inspect (.writeRunning x) s = (.done, { s with running := x }) ∧
    inspect .readThrottle s = (.nat s.throttle, s) ∧
    inspect (.writeThrottle n) s = (.done, { s with throttle := n }) ∧
    (∀ turns, SequencerTurn s turns → s.phase = .running →
      step { s with running := false } = .next { s with running := false, phase := .halted, schedule := turns }) ∧
    (∀ turns, SequencerTurn s turns → s.phase = .running → s.pc.toNat < s.cfg.stackBoundary.toNat →
      step { s with running := true } = exec s.instrAt { s with running := true, schedule := turns }) ∧
    (∀ turns, SequencerTurn s turns → s.phase ≠ .running →
      step { s with running := true } = .next { s with running := true, schedule := turns })

/-- The dump reads the listed fields and changes nothing; Terminate sets only the inspector's flag, after which a command turn is void (the model's choice, log 4) (R271, R272). -/
def Obligations.DumpAndTerminate : Prop :=
  ∀ s : State,
    inspect .dumpState s = (.dump {
      pc := s.pc, sp := s.sp, a := s.a, b := s.b, c := s.c, d := s.d, e := s.e,
      h := s.h, l := s.l, flagS := s.f.getLsbD 7, flagZ := s.f.getLsbD 6, flagAC := s.f.getLsbD 4,
      flagP := s.f.getLsbD 2, flagCY := s.f.getLsbD 0, port2000 := s.read8 0x2000, port3000 := s.read8 0x3000 }, s) ∧
    inspect .terminate s = (.done, { s with inspectorDone := true }) ∧
    (∀ cfg turns, (State.resetWith cfg turns).inspectorDone = false) ∧
    (s.inspectorDone = true → ∀ k, issue k s = s) ∧
    (s.runEnded = true ↔ s.phase ≠ .running ∧ s.inspectorDone = true)

/-- A failing command changes no state, and no command changes phase, reports or configuration (R39, R41, R261). -/
def Obligations.FailingCommandsChangeNothing : Prop :=
  ∀ (k : Command) (s : State),
    (∀ why, (inspect k s).1 = .failed why → (inspect k s).2 = s) ∧
    (inspect k s).2.phase = s.phase ∧ (inspect k s).2.reports = s.reports ∧ (inspect k s).2.cfg = s.cfg ∧
    (inspect k s).2.schedule = s.schedule

/-- Reset loads the image at LOAD_ADDR and gives every other piece of state its reset value (R43, R290, R291, R292). -/
def Obligations.BootGivesResetState : Prop :=
  ∀ (cfg : Config) (turns : List Turn) (bytes : List Byte),
    cfg.loadAddr.toNat + bytes.length ≤ cfg.stackBoundary.toNat →
    ∃ m, State.boot cfg turns (some bytes) = .next {
      b := 0, c := 0, d := 0, e := 0, h := 0, l := 0, a := 0, f := 0,
      pc := cfg.loadAddr, sp := cfg.spReset, running := true,
      phase := .running, throttle := 0, reports := [], mem := m,
      cfg := cfg, inspectorDone := false, schedule := turns,
      replies := [] } ∧
      m.wf ∧ ∀ q : Word, m.read q.toNat =
        if cfg.loadAddr.toNat ≤ q.toNat then bytes.getD (q.toNat - cfg.loadAddr.toNat) 0 else 0

/-- An image that is too large or unreadable constructs no initial state (R293). -/
def Obligations.FailedLoadConstructsNoState : Prop :=
  ∀ (cfg : Config) (turns : List Turn) (bytes : List Byte),
    State.boot cfg turns none = .refused .imageUnreadable ∧
    (cfg.stackBoundary.toNat < cfg.loadAddr.toNat + bytes.length →
      State.boot cfg turns (some bytes) = .refused .imageTooLarge) ∧
    (cfg.loadAddr.toNat + bytes.length = cfg.stackBoundary.toNat →
      ∃ s, State.boot cfg turns (some bytes) = .next s ∧ s.pc = cfg.loadAddr) ∧
    (cfg.loadAddr.toNat ≤ cfg.stackBoundary.toNat →
      State.boot cfg turns (some []) = .next (State.resetWith cfg turns))
end

