-- ==== Sys2Proof/Laws/State.lean ====
section
/-! SUPPORT. What each named update of the state leaves in each field: one lemma per field per update, so that no later proof
unfolds an update. -/

namespace Sys2Proof.Machine

/-! ## Updates of one field -/

@[simp] theorem State.advance_b (s : State) (n : Word) : (s.advance n).b = s.b := rfl
@[simp] theorem State.advance_c (s : State) (n : Word) : (s.advance n).c = s.c := rfl
@[simp] theorem State.advance_d (s : State) (n : Word) : (s.advance n).d = s.d := rfl
@[simp] theorem State.advance_e (s : State) (n : Word) : (s.advance n).e = s.e := rfl
@[simp] theorem State.advance_h (s : State) (n : Word) : (s.advance n).h = s.h := rfl
@[simp] theorem State.advance_l (s : State) (n : Word) : (s.advance n).l = s.l := rfl
@[simp] theorem State.advance_a (s : State) (n : Word) : (s.advance n).a = s.a := rfl
@[simp] theorem State.advance_f (s : State) (n : Word) : (s.advance n).f = s.f := rfl
@[simp] theorem State.advance_pc (s : State) (n : Word) : (s.advance n).pc = s.pc + n := rfl
@[simp] theorem State.advance_sp (s : State) (n : Word) : (s.advance n).sp = s.sp := rfl
@[simp] theorem State.advance_running (s : State) (n : Word) : (s.advance n).running = s.running := rfl
@[simp] theorem State.advance_phase (s : State) (n : Word) : (s.advance n).phase = s.phase := rfl
@[simp] theorem State.advance_throttle (s : State) (n : Word) : (s.advance n).throttle = s.throttle := rfl
@[simp] theorem State.advance_reports (s : State) (n : Word) : (s.advance n).reports = s.reports := rfl
@[simp] theorem State.advance_mem (s : State) (n : Word) : (s.advance n).mem = s.mem := rfl
@[simp] theorem State.advance_cfg (s : State) (n : Word) : (s.advance n).cfg = s.cfg := rfl
@[simp] theorem State.advance_inspectorDone (s : State) (n : Word) : (s.advance n).inspectorDone = s.inspectorDone := rfl
@[simp] theorem State.advance_schedule (s : State) (n : Word) : (s.advance n).schedule = s.schedule := rfl
@[simp] theorem State.advance_replies (s : State) (n : Word) : (s.advance n).replies = s.replies := rfl

@[simp] theorem State.setPc_b (s : State) (v : Word) : (s.setPc v).b = s.b := rfl
@[simp] theorem State.setPc_c (s : State) (v : Word) : (s.setPc v).c = s.c := rfl
@[simp] theorem State.setPc_d (s : State) (v : Word) : (s.setPc v).d = s.d := rfl
@[simp] theorem State.setPc_e (s : State) (v : Word) : (s.setPc v).e = s.e := rfl
@[simp] theorem State.setPc_h (s : State) (v : Word) : (s.setPc v).h = s.h := rfl
@[simp] theorem State.setPc_l (s : State) (v : Word) : (s.setPc v).l = s.l := rfl
@[simp] theorem State.setPc_a (s : State) (v : Word) : (s.setPc v).a = s.a := rfl
@[simp] theorem State.setPc_f (s : State) (v : Word) : (s.setPc v).f = s.f := rfl
@[simp] theorem State.setPc_pc (s : State) (v : Word) : (s.setPc v).pc = v := rfl
@[simp] theorem State.setPc_sp (s : State) (v : Word) : (s.setPc v).sp = s.sp := rfl
@[simp] theorem State.setPc_running (s : State) (v : Word) : (s.setPc v).running = s.running := rfl
@[simp] theorem State.setPc_phase (s : State) (v : Word) : (s.setPc v).phase = s.phase := rfl
@[simp] theorem State.setPc_throttle (s : State) (v : Word) : (s.setPc v).throttle = s.throttle := rfl
@[simp] theorem State.setPc_reports (s : State) (v : Word) : (s.setPc v).reports = s.reports := rfl
@[simp] theorem State.setPc_mem (s : State) (v : Word) : (s.setPc v).mem = s.mem := rfl
@[simp] theorem State.setPc_cfg (s : State) (v : Word) : (s.setPc v).cfg = s.cfg := rfl
@[simp] theorem State.setPc_inspectorDone (s : State) (v : Word) : (s.setPc v).inspectorDone = s.inspectorDone := rfl
@[simp] theorem State.setPc_schedule (s : State) (v : Word) : (s.setPc v).schedule = s.schedule := rfl
@[simp] theorem State.setPc_replies (s : State) (v : Word) : (s.setPc v).replies = s.replies := rfl

@[simp] theorem State.setSp_b (s : State) (v : Word) : (s.setSp v).b = s.b := rfl
@[simp] theorem State.setSp_c (s : State) (v : Word) : (s.setSp v).c = s.c := rfl
@[simp] theorem State.setSp_d (s : State) (v : Word) : (s.setSp v).d = s.d := rfl
@[simp] theorem State.setSp_e (s : State) (v : Word) : (s.setSp v).e = s.e := rfl
@[simp] theorem State.setSp_h (s : State) (v : Word) : (s.setSp v).h = s.h := rfl
@[simp] theorem State.setSp_l (s : State) (v : Word) : (s.setSp v).l = s.l := rfl
@[simp] theorem State.setSp_a (s : State) (v : Word) : (s.setSp v).a = s.a := rfl
@[simp] theorem State.setSp_f (s : State) (v : Word) : (s.setSp v).f = s.f := rfl
@[simp] theorem State.setSp_pc (s : State) (v : Word) : (s.setSp v).pc = s.pc := rfl
@[simp] theorem State.setSp_sp (s : State) (v : Word) : (s.setSp v).sp = v := rfl
@[simp] theorem State.setSp_running (s : State) (v : Word) : (s.setSp v).running = s.running := rfl
@[simp] theorem State.setSp_phase (s : State) (v : Word) : (s.setSp v).phase = s.phase := rfl
@[simp] theorem State.setSp_throttle (s : State) (v : Word) : (s.setSp v).throttle = s.throttle := rfl
@[simp] theorem State.setSp_reports (s : State) (v : Word) : (s.setSp v).reports = s.reports := rfl
@[simp] theorem State.setSp_mem (s : State) (v : Word) : (s.setSp v).mem = s.mem := rfl
@[simp] theorem State.setSp_cfg (s : State) (v : Word) : (s.setSp v).cfg = s.cfg := rfl
@[simp] theorem State.setSp_inspectorDone (s : State) (v : Word) : (s.setSp v).inspectorDone = s.inspectorDone := rfl
@[simp] theorem State.setSp_schedule (s : State) (v : Word) : (s.setSp v).schedule = s.schedule := rfl
@[simp] theorem State.setSp_replies (s : State) (v : Word) : (s.setSp v).replies = s.replies := rfl

@[simp] theorem State.setRunning_b (s : State) (v : Bool) : (s.setRunning v).b = s.b := rfl
@[simp] theorem State.setRunning_c (s : State) (v : Bool) : (s.setRunning v).c = s.c := rfl
@[simp] theorem State.setRunning_d (s : State) (v : Bool) : (s.setRunning v).d = s.d := rfl
@[simp] theorem State.setRunning_e (s : State) (v : Bool) : (s.setRunning v).e = s.e := rfl
@[simp] theorem State.setRunning_h (s : State) (v : Bool) : (s.setRunning v).h = s.h := rfl
@[simp] theorem State.setRunning_l (s : State) (v : Bool) : (s.setRunning v).l = s.l := rfl
@[simp] theorem State.setRunning_a (s : State) (v : Bool) : (s.setRunning v).a = s.a := rfl
@[simp] theorem State.setRunning_f (s : State) (v : Bool) : (s.setRunning v).f = s.f := rfl
@[simp] theorem State.setRunning_pc (s : State) (v : Bool) : (s.setRunning v).pc = s.pc := rfl
@[simp] theorem State.setRunning_sp (s : State) (v : Bool) : (s.setRunning v).sp = s.sp := rfl
@[simp] theorem State.setRunning_running (s : State) (v : Bool) : (s.setRunning v).running = v := rfl
@[simp] theorem State.setRunning_phase (s : State) (v : Bool) : (s.setRunning v).phase = s.phase := rfl
@[simp] theorem State.setRunning_throttle (s : State) (v : Bool) : (s.setRunning v).throttle = s.throttle := rfl
@[simp] theorem State.setRunning_reports (s : State) (v : Bool) : (s.setRunning v).reports = s.reports := rfl
@[simp] theorem State.setRunning_mem (s : State) (v : Bool) : (s.setRunning v).mem = s.mem := rfl
@[simp] theorem State.setRunning_cfg (s : State) (v : Bool) : (s.setRunning v).cfg = s.cfg := rfl
@[simp] theorem State.setRunning_inspectorDone (s : State) (v : Bool) : (s.setRunning v).inspectorDone = s.inspectorDone := rfl
@[simp] theorem State.setRunning_schedule (s : State) (v : Bool) : (s.setRunning v).schedule = s.schedule := rfl
@[simp] theorem State.setRunning_replies (s : State) (v : Bool) : (s.setRunning v).replies = s.replies := rfl

@[simp] theorem State.setF_b (s : State) (v : Byte) : (s.setF v).b = s.b := rfl
@[simp] theorem State.setF_c (s : State) (v : Byte) : (s.setF v).c = s.c := rfl
@[simp] theorem State.setF_d (s : State) (v : Byte) : (s.setF v).d = s.d := rfl
@[simp] theorem State.setF_e (s : State) (v : Byte) : (s.setF v).e = s.e := rfl
@[simp] theorem State.setF_h (s : State) (v : Byte) : (s.setF v).h = s.h := rfl
@[simp] theorem State.setF_l (s : State) (v : Byte) : (s.setF v).l = s.l := rfl
@[simp] theorem State.setF_a (s : State) (v : Byte) : (s.setF v).a = s.a := rfl
@[simp] theorem State.setF_f (s : State) (v : Byte) : (s.setF v).f = v := rfl
@[simp] theorem State.setF_pc (s : State) (v : Byte) : (s.setF v).pc = s.pc := rfl
@[simp] theorem State.setF_sp (s : State) (v : Byte) : (s.setF v).sp = s.sp := rfl
@[simp] theorem State.setF_running (s : State) (v : Byte) : (s.setF v).running = s.running := rfl
@[simp] theorem State.setF_phase (s : State) (v : Byte) : (s.setF v).phase = s.phase := rfl
@[simp] theorem State.setF_throttle (s : State) (v : Byte) : (s.setF v).throttle = s.throttle := rfl
@[simp] theorem State.setF_reports (s : State) (v : Byte) : (s.setF v).reports = s.reports := rfl
@[simp] theorem State.setF_mem (s : State) (v : Byte) : (s.setF v).mem = s.mem := rfl
@[simp] theorem State.setF_cfg (s : State) (v : Byte) : (s.setF v).cfg = s.cfg := rfl
@[simp] theorem State.setF_inspectorDone (s : State) (v : Byte) : (s.setF v).inspectorDone = s.inspectorDone := rfl
@[simp] theorem State.setF_schedule (s : State) (v : Byte) : (s.setF v).schedule = s.schedule := rfl
@[simp] theorem State.setF_replies (s : State) (v : Byte) : (s.setF v).replies = s.replies := rfl

@[simp] theorem State.report_b (s : State) (x : Word) (y : Byte) : (s.report x y).b = s.b := rfl
@[simp] theorem State.report_c (s : State) (x : Word) (y : Byte) : (s.report x y).c = s.c := rfl
@[simp] theorem State.report_d (s : State) (x : Word) (y : Byte) : (s.report x y).d = s.d := rfl
@[simp] theorem State.report_e (s : State) (x : Word) (y : Byte) : (s.report x y).e = s.e := rfl
@[simp] theorem State.report_h (s : State) (x : Word) (y : Byte) : (s.report x y).h = s.h := rfl
@[simp] theorem State.report_l (s : State) (x : Word) (y : Byte) : (s.report x y).l = s.l := rfl
@[simp] theorem State.report_a (s : State) (x : Word) (y : Byte) : (s.report x y).a = s.a := rfl
@[simp] theorem State.report_f (s : State) (x : Word) (y : Byte) : (s.report x y).f = s.f := rfl
@[simp] theorem State.report_pc (s : State) (x : Word) (y : Byte) : (s.report x y).pc = s.pc := rfl
@[simp] theorem State.report_sp (s : State) (x : Word) (y : Byte) : (s.report x y).sp = s.sp := rfl
@[simp] theorem State.report_running (s : State) (x : Word) (y : Byte) : (s.report x y).running = s.running := rfl
@[simp] theorem State.report_phase (s : State) (x : Word) (y : Byte) : (s.report x y).phase = s.phase := rfl
@[simp] theorem State.report_throttle (s : State) (x : Word) (y : Byte) : (s.report x y).throttle = s.throttle := rfl
@[simp] theorem State.report_reports (s : State) (x : Word) (y : Byte) : (s.report x y).reports = s.reports ++ [Report.mk x y] := rfl
@[simp] theorem State.report_mem (s : State) (x : Word) (y : Byte) : (s.report x y).mem = s.mem := rfl
@[simp] theorem State.report_cfg (s : State) (x : Word) (y : Byte) : (s.report x y).cfg = s.cfg := rfl
@[simp] theorem State.report_inspectorDone (s : State) (x : Word) (y : Byte) : (s.report x y).inspectorDone = s.inspectorDone := rfl
@[simp] theorem State.report_schedule (s : State) (x : Word) (y : Byte) : (s.report x y).schedule = s.schedule := rfl
@[simp] theorem State.report_replies (s : State) (x : Word) (y : Byte) : (s.report x y).replies = s.replies := rfl

@[simp] theorem State.write8_b (s : State) (x : Word) (v : Byte) : (s.write8 x v).b = s.b := rfl
@[simp] theorem State.write8_c (s : State) (x : Word) (v : Byte) : (s.write8 x v).c = s.c := rfl
@[simp] theorem State.write8_d (s : State) (x : Word) (v : Byte) : (s.write8 x v).d = s.d := rfl
@[simp] theorem State.write8_e (s : State) (x : Word) (v : Byte) : (s.write8 x v).e = s.e := rfl
@[simp] theorem State.write8_h (s : State) (x : Word) (v : Byte) : (s.write8 x v).h = s.h := rfl
@[simp] theorem State.write8_l (s : State) (x : Word) (v : Byte) : (s.write8 x v).l = s.l := rfl
@[simp] theorem State.write8_a (s : State) (x : Word) (v : Byte) : (s.write8 x v).a = s.a := rfl
@[simp] theorem State.write8_f (s : State) (x : Word) (v : Byte) : (s.write8 x v).f = s.f := rfl
@[simp] theorem State.write8_pc (s : State) (x : Word) (v : Byte) : (s.write8 x v).pc = s.pc := rfl
@[simp] theorem State.write8_sp (s : State) (x : Word) (v : Byte) : (s.write8 x v).sp = s.sp := rfl
@[simp] theorem State.write8_running (s : State) (x : Word) (v : Byte) : (s.write8 x v).running = s.running := rfl
@[simp] theorem State.write8_phase (s : State) (x : Word) (v : Byte) : (s.write8 x v).phase = s.phase := rfl
@[simp] theorem State.write8_throttle (s : State) (x : Word) (v : Byte) : (s.write8 x v).throttle = s.throttle := rfl
@[simp] theorem State.write8_reports (s : State) (x : Word) (v : Byte) : (s.write8 x v).reports = s.reports := rfl
@[simp] theorem State.write8_mem (s : State) (x : Word) (v : Byte) : (s.write8 x v).mem = s.mem.write x.toNat v := rfl
@[simp] theorem State.write8_cfg (s : State) (x : Word) (v : Byte) : (s.write8 x v).cfg = s.cfg := rfl
@[simp] theorem State.write8_inspectorDone (s : State) (x : Word) (v : Byte) : (s.write8 x v).inspectorDone = s.inspectorDone := rfl
@[simp] theorem State.write8_schedule (s : State) (x : Word) (v : Byte) : (s.write8 x v).schedule = s.schedule := rfl
@[simp] theorem State.write8_replies (s : State) (x : Word) (v : Byte) : (s.write8 x v).replies = s.replies := rfl

/-! ## A register -/

@[simp] theorem State.setReg_b_eq (s : State) (v : Byte) : s.setReg .b v = { s with b := v } := rfl
@[simp] theorem State.setReg_c_eq (s : State) (v : Byte) : s.setReg .c v = { s with c := v } := rfl
@[simp] theorem State.setReg_d_eq (s : State) (v : Byte) : s.setReg .d v = { s with d := v } := rfl
@[simp] theorem State.setReg_e_eq (s : State) (v : Byte) : s.setReg .e v = { s with e := v } := rfl
@[simp] theorem State.setReg_h_eq (s : State) (v : Byte) : s.setReg .h v = { s with h := v } := rfl
@[simp] theorem State.setReg_l_eq (s : State) (v : Byte) : s.setReg .l v = { s with l := v } := rfl
@[simp] theorem State.setReg_a_eq (s : State) (v : Byte) : s.setReg .a v = { s with a := v } := rfl

@[simp] theorem State.setReg_f (s : State) (r : Reg) (v : Byte) : (s.setReg r v).f = s.f := by cases r <;> rfl
@[simp] theorem State.setReg_pc (s : State) (r : Reg) (v : Byte) : (s.setReg r v).pc = s.pc := by cases r <;> rfl
@[simp] theorem State.setReg_sp (s : State) (r : Reg) (v : Byte) : (s.setReg r v).sp = s.sp := by cases r <;> rfl
@[simp] theorem State.setReg_running (s : State) (r : Reg) (v : Byte) : (s.setReg r v).running = s.running := by cases r <;> rfl
@[simp] theorem State.setReg_phase (s : State) (r : Reg) (v : Byte) : (s.setReg r v).phase = s.phase := by cases r <;> rfl
@[simp] theorem State.setReg_throttle (s : State) (r : Reg) (v : Byte) : (s.setReg r v).throttle = s.throttle := by cases r <;> rfl
@[simp] theorem State.setReg_reports (s : State) (r : Reg) (v : Byte) : (s.setReg r v).reports = s.reports := by cases r <;> rfl
@[simp] theorem State.setReg_mem (s : State) (r : Reg) (v : Byte) : (s.setReg r v).mem = s.mem := by cases r <;> rfl
@[simp] theorem State.setReg_cfg (s : State) (r : Reg) (v : Byte) : (s.setReg r v).cfg = s.cfg := by cases r <;> rfl
@[simp] theorem State.setReg_inspectorDone (s : State) (r : Reg) (v : Byte) : (s.setReg r v).inspectorDone = s.inspectorDone := by cases r <;> rfl
@[simp] theorem State.setReg_schedule (s : State) (r : Reg) (v : Byte) : (s.setReg r v).schedule = s.schedule := by cases r <;> rfl
@[simp] theorem State.setReg_replies (s : State) (r : Reg) (v : Byte) : (s.setReg r v).replies = s.replies := by cases r <;> rfl

@[simp] theorem State.reg_setReg_same (s : State) (r : Reg) (v : Byte) : (s.setReg r v).reg r = v := by cases r <;> rfl

theorem State.reg_setReg_ne (s : State) (r q : Reg) (v : Byte) (h : q ≠ r) : (s.setReg r v).reg q = s.reg q := by
  cases r <;> cases q <;> first | rfl | exact absurd rfl h

@[simp] theorem State.reg_advance (s : State) (n : Word) (r : Reg) : (s.advance n).reg r = s.reg r := by cases r <;> rfl
@[simp] theorem State.reg_write8 (s : State) (x : Word) (v : Byte) (r : Reg) : (s.write8 x v).reg r = s.reg r := by
  cases r <;> rfl

/-! ## Updates made of several -/

@[simp] theorem State.setFlag_b (s : State) (n : Flag) (v : Bool) : (s.setFlag n v).b = s.b := by simp [State.setFlag]
@[simp] theorem State.setFlag_c (s : State) (n : Flag) (v : Bool) : (s.setFlag n v).c = s.c := by simp [State.setFlag]
@[simp] theorem State.setFlag_d (s : State) (n : Flag) (v : Bool) : (s.setFlag n v).d = s.d := by simp [State.setFlag]
@[simp] theorem State.setFlag_e (s : State) (n : Flag) (v : Bool) : (s.setFlag n v).e = s.e := by simp [State.setFlag]
@[simp] theorem State.setFlag_h (s : State) (n : Flag) (v : Bool) : (s.setFlag n v).h = s.h := by simp [State.setFlag]
@[simp] theorem State.setFlag_l (s : State) (n : Flag) (v : Bool) : (s.setFlag n v).l = s.l := by simp [State.setFlag]
@[simp] theorem State.setFlag_a (s : State) (n : Flag) (v : Bool) : (s.setFlag n v).a = s.a := by simp [State.setFlag]
@[simp] theorem State.setFlag_pc (s : State) (n : Flag) (v : Bool) : (s.setFlag n v).pc = s.pc := by simp [State.setFlag]
@[simp] theorem State.setFlag_sp (s : State) (n : Flag) (v : Bool) : (s.setFlag n v).sp = s.sp := by simp [State.setFlag]
@[simp] theorem State.setFlag_running (s : State) (n : Flag) (v : Bool) : (s.setFlag n v).running = s.running := by simp [State.setFlag]
@[simp] theorem State.setFlag_phase (s : State) (n : Flag) (v : Bool) : (s.setFlag n v).phase = s.phase := by simp [State.setFlag]
@[simp] theorem State.setFlag_throttle (s : State) (n : Flag) (v : Bool) : (s.setFlag n v).throttle = s.throttle := by simp [State.setFlag]
@[simp] theorem State.setFlag_reports (s : State) (n : Flag) (v : Bool) : (s.setFlag n v).reports = s.reports := by simp [State.setFlag]
@[simp] theorem State.setFlag_mem (s : State) (n : Flag) (v : Bool) : (s.setFlag n v).mem = s.mem := by simp [State.setFlag]
@[simp] theorem State.setFlag_cfg (s : State) (n : Flag) (v : Bool) : (s.setFlag n v).cfg = s.cfg := by simp [State.setFlag]
@[simp] theorem State.setFlag_inspectorDone (s : State) (n : Flag) (v : Bool) : (s.setFlag n v).inspectorDone = s.inspectorDone := by simp [State.setFlag]
@[simp] theorem State.setFlag_schedule (s : State) (n : Flag) (v : Bool) : (s.setFlag n v).schedule = s.schedule := by simp [State.setFlag]
@[simp] theorem State.setFlag_replies (s : State) (n : Flag) (v : Bool) : (s.setFlag n v).replies = s.replies := by simp [State.setFlag]

@[simp] theorem State.flagCompute_b (s : State) (r : Word) (k : Category) : (s.flagCompute r k).b = s.b := by simp [State.flagCompute]
@[simp] theorem State.flagCompute_c (s : State) (r : Word) (k : Category) : (s.flagCompute r k).c = s.c := by simp [State.flagCompute]
@[simp] theorem State.flagCompute_d (s : State) (r : Word) (k : Category) : (s.flagCompute r k).d = s.d := by simp [State.flagCompute]
@[simp] theorem State.flagCompute_e (s : State) (r : Word) (k : Category) : (s.flagCompute r k).e = s.e := by simp [State.flagCompute]
@[simp] theorem State.flagCompute_h (s : State) (r : Word) (k : Category) : (s.flagCompute r k).h = s.h := by simp [State.flagCompute]
@[simp] theorem State.flagCompute_l (s : State) (r : Word) (k : Category) : (s.flagCompute r k).l = s.l := by simp [State.flagCompute]
@[simp] theorem State.flagCompute_a (s : State) (r : Word) (k : Category) : (s.flagCompute r k).a = s.a := by simp [State.flagCompute]
@[simp] theorem State.flagCompute_pc (s : State) (r : Word) (k : Category) : (s.flagCompute r k).pc = s.pc := by simp [State.flagCompute]
@[simp] theorem State.flagCompute_sp (s : State) (r : Word) (k : Category) : (s.flagCompute r k).sp = s.sp := by simp [State.flagCompute]
@[simp] theorem State.flagCompute_running (s : State) (r : Word) (k : Category) : (s.flagCompute r k).running = s.running := by simp [State.flagCompute]
@[simp] theorem State.flagCompute_phase (s : State) (r : Word) (k : Category) : (s.flagCompute r k).phase = s.phase := by simp [State.flagCompute]
@[simp] theorem State.flagCompute_throttle (s : State) (r : Word) (k : Category) : (s.flagCompute r k).throttle = s.throttle := by simp [State.flagCompute]
@[simp] theorem State.flagCompute_reports (s : State) (r : Word) (k : Category) : (s.flagCompute r k).reports = s.reports := by simp [State.flagCompute]
@[simp] theorem State.flagCompute_mem (s : State) (r : Word) (k : Category) : (s.flagCompute r k).mem = s.mem := by simp [State.flagCompute]
@[simp] theorem State.flagCompute_cfg (s : State) (r : Word) (k : Category) : (s.flagCompute r k).cfg = s.cfg := by simp [State.flagCompute]
@[simp] theorem State.flagCompute_inspectorDone (s : State) (r : Word) (k : Category) : (s.flagCompute r k).inspectorDone = s.inspectorDone := by simp [State.flagCompute]
@[simp] theorem State.flagCompute_schedule (s : State) (r : Word) (k : Category) : (s.flagCompute r k).schedule = s.schedule := by simp [State.flagCompute]
@[simp] theorem State.flagCompute_replies (s : State) (r : Word) (k : Category) : (s.flagCompute r k).replies = s.replies := by simp [State.flagCompute]

@[simp] theorem State.push8_b (s : State) (v : Byte) : (s.push8 v).b = s.b := by simp [State.push8]
@[simp] theorem State.push8_c (s : State) (v : Byte) : (s.push8 v).c = s.c := by simp [State.push8]
@[simp] theorem State.push8_d (s : State) (v : Byte) : (s.push8 v).d = s.d := by simp [State.push8]
@[simp] theorem State.push8_e (s : State) (v : Byte) : (s.push8 v).e = s.e := by simp [State.push8]
@[simp] theorem State.push8_h (s : State) (v : Byte) : (s.push8 v).h = s.h := by simp [State.push8]
@[simp] theorem State.push8_l (s : State) (v : Byte) : (s.push8 v).l = s.l := by simp [State.push8]
@[simp] theorem State.push8_a (s : State) (v : Byte) : (s.push8 v).a = s.a := by simp [State.push8]
@[simp] theorem State.push8_f (s : State) (v : Byte) : (s.push8 v).f = s.f := by simp [State.push8]
@[simp] theorem State.push8_pc (s : State) (v : Byte) : (s.push8 v).pc = s.pc := by simp [State.push8]
@[simp] theorem State.push8_running (s : State) (v : Byte) : (s.push8 v).running = s.running := by simp [State.push8]
@[simp] theorem State.push8_phase (s : State) (v : Byte) : (s.push8 v).phase = s.phase := by simp [State.push8]
@[simp] theorem State.push8_throttle (s : State) (v : Byte) : (s.push8 v).throttle = s.throttle := by simp [State.push8]
@[simp] theorem State.push8_reports (s : State) (v : Byte) : (s.push8 v).reports = s.reports := by simp [State.push8]
@[simp] theorem State.push8_cfg (s : State) (v : Byte) : (s.push8 v).cfg = s.cfg := by simp [State.push8]
@[simp] theorem State.push8_inspectorDone (s : State) (v : Byte) : (s.push8 v).inspectorDone = s.inspectorDone := by simp [State.push8]
@[simp] theorem State.push8_schedule (s : State) (v : Byte) : (s.push8 v).schedule = s.schedule := by simp [State.push8]
@[simp] theorem State.push8_replies (s : State) (v : Byte) : (s.push8 v).replies = s.replies := by simp [State.push8]

@[simp] theorem State.push16_b (s : State) (v : Word) : (s.push16 v).b = s.b := by simp [State.push16]
@[simp] theorem State.push16_c (s : State) (v : Word) : (s.push16 v).c = s.c := by simp [State.push16]
@[simp] theorem State.push16_d (s : State) (v : Word) : (s.push16 v).d = s.d := by simp [State.push16]
@[simp] theorem State.push16_e (s : State) (v : Word) : (s.push16 v).e = s.e := by simp [State.push16]
@[simp] theorem State.push16_h (s : State) (v : Word) : (s.push16 v).h = s.h := by simp [State.push16]
@[simp] theorem State.push16_l (s : State) (v : Word) : (s.push16 v).l = s.l := by simp [State.push16]
@[simp] theorem State.push16_a (s : State) (v : Word) : (s.push16 v).a = s.a := by simp [State.push16]
@[simp] theorem State.push16_f (s : State) (v : Word) : (s.push16 v).f = s.f := by simp [State.push16]
@[simp] theorem State.push16_pc (s : State) (v : Word) : (s.push16 v).pc = s.pc := by simp [State.push16]
@[simp] theorem State.push16_running (s : State) (v : Word) : (s.push16 v).running = s.running := by simp [State.push16]
@[simp] theorem State.push16_phase (s : State) (v : Word) : (s.push16 v).phase = s.phase := by simp [State.push16]
@[simp] theorem State.push16_throttle (s : State) (v : Word) : (s.push16 v).throttle = s.throttle := by simp [State.push16]
@[simp] theorem State.push16_reports (s : State) (v : Word) : (s.push16 v).reports = s.reports := by simp [State.push16]
@[simp] theorem State.push16_cfg (s : State) (v : Word) : (s.push16 v).cfg = s.cfg := by simp [State.push16]
@[simp] theorem State.push16_inspectorDone (s : State) (v : Word) : (s.push16 v).inspectorDone = s.inspectorDone := by simp [State.push16]
@[simp] theorem State.push16_schedule (s : State) (v : Word) : (s.push16 v).schedule = s.schedule := by simp [State.push16]
@[simp] theorem State.push16_replies (s : State) (v : Word) : (s.push16 v).replies = s.replies := by simp [State.push16]

@[simp] theorem State.write16_b (s : State) (x v : Word) : (s.write16 x v).b = s.b := by simp [State.write16]
@[simp] theorem State.write16_c (s : State) (x v : Word) : (s.write16 x v).c = s.c := by simp [State.write16]
@[simp] theorem State.write16_d (s : State) (x v : Word) : (s.write16 x v).d = s.d := by simp [State.write16]
@[simp] theorem State.write16_e (s : State) (x v : Word) : (s.write16 x v).e = s.e := by simp [State.write16]
@[simp] theorem State.write16_h (s : State) (x v : Word) : (s.write16 x v).h = s.h := by simp [State.write16]
@[simp] theorem State.write16_l (s : State) (x v : Word) : (s.write16 x v).l = s.l := by simp [State.write16]
@[simp] theorem State.write16_a (s : State) (x v : Word) : (s.write16 x v).a = s.a := by simp [State.write16]
@[simp] theorem State.write16_f (s : State) (x v : Word) : (s.write16 x v).f = s.f := by simp [State.write16]
@[simp] theorem State.write16_pc (s : State) (x v : Word) : (s.write16 x v).pc = s.pc := by simp [State.write16]
@[simp] theorem State.write16_sp (s : State) (x v : Word) : (s.write16 x v).sp = s.sp := by simp [State.write16]
@[simp] theorem State.write16_running (s : State) (x v : Word) : (s.write16 x v).running = s.running := by simp [State.write16]
@[simp] theorem State.write16_phase (s : State) (x v : Word) : (s.write16 x v).phase = s.phase := by simp [State.write16]
@[simp] theorem State.write16_throttle (s : State) (x v : Word) : (s.write16 x v).throttle = s.throttle := by simp [State.write16]
@[simp] theorem State.write16_reports (s : State) (x v : Word) : (s.write16 x v).reports = s.reports := by simp [State.write16]
@[simp] theorem State.write16_cfg (s : State) (x v : Word) : (s.write16 x v).cfg = s.cfg := by simp [State.write16]
@[simp] theorem State.write16_inspectorDone (s : State) (x v : Word) : (s.write16 x v).inspectorDone = s.inspectorDone := by simp [State.write16]
@[simp] theorem State.write16_schedule (s : State) (x v : Word) : (s.write16 x v).schedule = s.schedule := by simp [State.write16]
@[simp] theorem State.write16_replies (s : State) (x v : Word) : (s.write16 x v).replies = s.replies := by simp [State.write16]

@[simp] theorem State.setPair_f (s : State) (p : Pair) (v : Word) : (s.setPair p v).f = s.f := by cases p <;> rfl
@[simp] theorem State.setPair_pc (s : State) (p : Pair) (v : Word) : (s.setPair p v).pc = s.pc := by cases p <;> rfl
@[simp] theorem State.setPair_running (s : State) (p : Pair) (v : Word) : (s.setPair p v).running = s.running := by cases p <;> rfl
@[simp] theorem State.setPair_phase (s : State) (p : Pair) (v : Word) : (s.setPair p v).phase = s.phase := by cases p <;> rfl
@[simp] theorem State.setPair_throttle (s : State) (p : Pair) (v : Word) : (s.setPair p v).throttle = s.throttle := by cases p <;> rfl
@[simp] theorem State.setPair_reports (s : State) (p : Pair) (v : Word) : (s.setPair p v).reports = s.reports := by cases p <;> rfl
@[simp] theorem State.setPair_mem (s : State) (p : Pair) (v : Word) : (s.setPair p v).mem = s.mem := by cases p <;> rfl
@[simp] theorem State.setPair_cfg (s : State) (p : Pair) (v : Word) : (s.setPair p v).cfg = s.cfg := by cases p <;> rfl
@[simp] theorem State.setPair_inspectorDone (s : State) (p : Pair) (v : Word) : (s.setPair p v).inspectorDone = s.inspectorDone := by cases p <;> rfl
@[simp] theorem State.setPair_schedule (s : State) (p : Pair) (v : Word) : (s.setPair p v).schedule = s.schedule := by cases p <;> rfl
@[simp] theorem State.setPair_replies (s : State) (p : Pair) (v : Word) : (s.setPair p v).replies = s.replies := by cases p <;> rfl

@[simp] theorem State.setStackPair_pc (s : State) (p : StackPair) (v : Word) : (s.setStackPair p v).pc = s.pc := by cases p <;> rfl
@[simp] theorem State.setStackPair_sp (s : State) (p : StackPair) (v : Word) : (s.setStackPair p v).sp = s.sp := by cases p <;> rfl
@[simp] theorem State.setStackPair_running (s : State) (p : StackPair) (v : Word) : (s.setStackPair p v).running = s.running := by cases p <;> rfl
@[simp] theorem State.setStackPair_phase (s : State) (p : StackPair) (v : Word) : (s.setStackPair p v).phase = s.phase := by cases p <;> rfl
@[simp] theorem State.setStackPair_throttle (s : State) (p : StackPair) (v : Word) : (s.setStackPair p v).throttle = s.throttle := by cases p <;> rfl
@[simp] theorem State.setStackPair_reports (s : State) (p : StackPair) (v : Word) : (s.setStackPair p v).reports = s.reports := by cases p <;> rfl
@[simp] theorem State.setStackPair_mem (s : State) (p : StackPair) (v : Word) : (s.setStackPair p v).mem = s.mem := by cases p <;> rfl
@[simp] theorem State.setStackPair_cfg (s : State) (p : StackPair) (v : Word) : (s.setStackPair p v).cfg = s.cfg := by cases p <;> rfl
@[simp] theorem State.setStackPair_inspectorDone (s : State) (p : StackPair) (v : Word) : (s.setStackPair p v).inspectorDone = s.inspectorDone := by cases p <;> rfl
@[simp] theorem State.setStackPair_schedule (s : State) (p : StackPair) (v : Word) : (s.setStackPair p v).schedule = s.schedule := by cases p <;> rfl
@[simp] theorem State.setStackPair_replies (s : State) (p : StackPair) (v : Word) : (s.setStackPair p v).replies = s.replies := by cases p <;> rfl

@[simp] theorem State.setPortPair_pc (s : State) (p : PortPair) (v : Word) : (s.setPortPair p v).pc = s.pc := by cases p <;> rfl
@[simp] theorem State.setPortPair_running (s : State) (p : PortPair) (v : Word) : (s.setPortPair p v).running = s.running := by cases p <;> rfl
@[simp] theorem State.setPortPair_phase (s : State) (p : PortPair) (v : Word) : (s.setPortPair p v).phase = s.phase := by cases p <;> rfl
@[simp] theorem State.setPortPair_throttle (s : State) (p : PortPair) (v : Word) : (s.setPortPair p v).throttle = s.throttle := by cases p <;> rfl
@[simp] theorem State.setPortPair_reports (s : State) (p : PortPair) (v : Word) : (s.setPortPair p v).reports = s.reports := by cases p <;> rfl
@[simp] theorem State.setPortPair_mem (s : State) (p : PortPair) (v : Word) : (s.setPortPair p v).mem = s.mem := by cases p <;> rfl
@[simp] theorem State.setPortPair_cfg (s : State) (p : PortPair) (v : Word) : (s.setPortPair p v).cfg = s.cfg := by cases p <;> rfl
@[simp] theorem State.setPortPair_inspectorDone (s : State) (p : PortPair) (v : Word) : (s.setPortPair p v).inspectorDone = s.inspectorDone := by cases p <;> rfl
@[simp] theorem State.setPortPair_schedule (s : State) (p : PortPair) (v : Word) : (s.setPortPair p v).schedule = s.schedule := by cases p <;> rfl
@[simp] theorem State.setPortPair_replies (s : State) (p : PortPair) (v : Word) : (s.setPortPair p v).replies = s.replies := by cases p <;> rfl

@[simp] theorem State.setOperand_f (s : State) (x : Loc) (v : Byte) : (s.setOperand x v).f = s.f := by
  rcases x with r | _
  · cases r <;> rfl
  · rfl
@[simp] theorem State.setOperand_pc (s : State) (x : Loc) (v : Byte) : (s.setOperand x v).pc = s.pc := by
  rcases x with r | _
  · cases r <;> rfl
  · rfl
@[simp] theorem State.setOperand_sp (s : State) (x : Loc) (v : Byte) : (s.setOperand x v).sp = s.sp := by
  rcases x with r | _
  · cases r <;> rfl
  · rfl
@[simp] theorem State.setOperand_running (s : State) (x : Loc) (v : Byte) : (s.setOperand x v).running = s.running := by
  rcases x with r | _
  · cases r <;> rfl
  · rfl
@[simp] theorem State.setOperand_phase (s : State) (x : Loc) (v : Byte) : (s.setOperand x v).phase = s.phase := by
  rcases x with r | _
  · cases r <;> rfl
  · rfl
@[simp] theorem State.setOperand_throttle (s : State) (x : Loc) (v : Byte) : (s.setOperand x v).throttle = s.throttle := by
  rcases x with r | _
  · cases r <;> rfl
  · rfl
@[simp] theorem State.setOperand_reports (s : State) (x : Loc) (v : Byte) : (s.setOperand x v).reports = s.reports := by
  rcases x with r | _
  · cases r <;> rfl
  · rfl
@[simp] theorem State.setOperand_cfg (s : State) (x : Loc) (v : Byte) : (s.setOperand x v).cfg = s.cfg := by
  rcases x with r | _
  · cases r <;> rfl
  · rfl
@[simp] theorem State.setOperand_inspectorDone (s : State) (x : Loc) (v : Byte) : (s.setOperand x v).inspectorDone = s.inspectorDone := by
  rcases x with r | _
  · cases r <;> rfl
  · rfl
@[simp] theorem State.setOperand_schedule (s : State) (x : Loc) (v : Byte) : (s.setOperand x v).schedule = s.schedule := by
  rcases x with r | _
  · cases r <;> rfl
  · rfl
@[simp] theorem State.setOperand_replies (s : State) (x : Loc) (v : Byte) : (s.setOperand x v).replies = s.replies := by
  rcases x with r | _
  · cases r <;> rfl
  · rfl

theorem State.pop16_state (s : State) : s.pop16.2 = s.setSp (s.sp + 2) := by
  simp only [State.pop16, State.pop8, State.setSp, BitVec.add_assoc]
  rfl

theorem State.pop16_value (s : State) : s.pop16.1 = mk16 (s.read8 (s.sp + 1)) (s.read8 s.sp) := rfl

theorem State.push16_eq (s : State) (v : Word) :
    s.push16 v = { s with
      sp := s.sp - 2
      mem := (s.mem.write (s.sp - 1).toNat (hiByte v)).write (s.sp - 2).toNat (loByte v) } := by
  have h : s.sp - 1 - 1 = s.sp - 2 := by bv_omega
  simp only [State.push16, State.push8, State.setSp, State.write8, h]

end Sys2Proof.Machine
end

