-- ==== Sys2Proof/Laws/Flags.lean ====
section
/-! SUPPORT. The flag byte bit by bit, and the whole effect of Flag Computation (42_alu.md R140). -/

namespace Sys2Proof.Machine

/-- Setting a bit sets that bit and no other. -/
theorem getLsbD_setBit (x : Byte) (i j : Nat) (v : Bool) (hj : j < 8) :
    (setBit x i v).getLsbD j = if j = i then v else x.getLsbD j := by
  have hone : ((1 : Byte) <<< i).getLsbD j = decide (j = i) := by
    rw [BitVec.getLsbD_shiftLeft]
    rcases Nat.lt_trichotomy j i with h | h | h
    · simp [h, Nat.ne_of_lt h]
    · subst h
      simp [hj]
    · have : j - i ≠ 0 := by omega
      simp [Nat.ne_of_gt h, BitVec.getLsbD_one, this]
  cases v
  · simp only [setBit, Bool.false_eq_true, if_false, BitVec.getLsbD_and, BitVec.getLsbD_not, hone, hj]
    by_cases h : j = i <;> simp [h]
  · simp only [setBit, if_true, BitVec.getLsbD_or, hone]
    by_cases h : j = i <;> simp [h]

theorem State.flag_eq (s : State) (n : Flag) : s.flag n = s.f.getLsbD (flagBit n) := rfl

/-- A flag written reads back, and no other bit of `F` changes. -/
theorem State.getLsbD_setFlag (s : State) (n : Flag) (v : Bool) (j : Nat) (hj : j < 8) :
    (s.setFlag n v).f.getLsbD j = if j = flagBit n then v else s.f.getLsbD j :=
  getLsbD_setBit s.f (flagBit n) j v hj

/-- The sum of the bits is the number of bits that are 1. -/
theorem popcount_eq_onesIn (v : Byte) : popcount v = onesIn v := by
  simp only [popcount, onesIn, show List.range 8 = [0, 1, 2, 3, 4, 5, 6, 7] from rfl, List.filter]
  cases v.getLsbD 0 <;> cases v.getLsbD 1 <;> cases v.getLsbD 2 <;> cases v.getLsbD 3 <;>
    cases v.getLsbD 4 <;> cases v.getLsbD 5 <;> cases v.getLsbD 6 <;> cases v.getLsbD 7 <;> rfl

/-- Everything Flag Computation does to `F`. -/
theorem State.flagsWritten_flagCompute (s : State) (r : Word) (k : Category) :
    FlagsWritten s.f (s.flagCompute r k).f (loByte r) (carryAfter r k (s.flag .cy)) := by
  have bit (j : Nat) (hj : j < 8) : (s.flagCompute r k).f.getLsbD j =
      if j = 0 then carryAfter r k (s.flag .cy) else if j = 2 then popcount (loByte r) % 2 == 0
      else if j = 7 then (loByte r).getLsbD 7 else if j = 6 then loByte r == 0 else s.f.getLsbD j := by
    simp only [State.flagCompute, State.getLsbD_setFlag _ _ _ _ hj, flagBit]
    rfl
  refine ⟨?_, ?_, ?_, ?_, ?_⟩
  · rw [bit 6 (by decide)]
    simp [beq_eq_decide]
  · rw [bit 7 (by decide)]
    simp
  · rw [bit 2 (by decide), popcount_eq_onesIn]
    simp [beq_eq_decide]
  · rw [bit 0 (by decide)]
    simp
  · intro i hi
    simp only [List.mem_cons, List.not_mem_nil, or_false] at hi
    rcases hi with rfl | rfl | rfl | rfl <;> rw [bit _ (by decide)] <;> simp

/-- Everything a carry-only write does to `F`. -/
theorem State.onlyCarryWritten_setFlag (s : State) (v : Bool) : OnlyCarryWritten s.f (s.setFlag .cy v).f v := by
  refine ⟨?_, ?_⟩
  · rw [State.getLsbD_setFlag _ _ _ _ (by decide)]
    simp [flagBit]
  · intro i hi
    simp only [List.mem_cons, List.not_mem_nil, or_false] at hi
    rcases hi with rfl | rfl | rfl | rfl | rfl | rfl | rfl <;>
      rw [State.getLsbD_setFlag _ _ _ _ (by decide)] <;> simp [flagBit]

end Sys2Proof.Machine
end

