-- ==== Sys2Proof/Laws/Memory.lean ====
section
/-! SUPPORT. The laws of memory: reading after writing, and the canonical form (20_memory.md R52, R53). -/

namespace Sys2Proof.Machine

@[simp] theorem Memory.read_nil (x : Nat) : Memory.read [] x = 0 := rfl

theorem Memory.read_cons (y : Host.Cell) (m : Memory) (x : Nat) :
    Memory.read (y :: m) x = if y.1 = x then y.2 else Memory.read m x := rfl

theorem Memory.erase_cons (y : Host.Cell) (m : Memory) (x : Nat) :
    Memory.erase (y :: m) x = if y.1 = x then Memory.erase m x else y :: Memory.erase m x := by
  by_cases h : y.1 = x <;> simp [Memory.erase, h]

theorem Memory.read_erase (m : Memory) (x q : Nat) :
    (m.erase x).read q = if q = x then 0 else m.read q := by
  induction m with
  | nil => simp [Memory.erase]
  | cons y m ih =>
    rw [Memory.erase_cons, Memory.read_cons]
    split
    · rename_i h
      rw [ih]
      by_cases hq : q = x
      · simp [hq]
      · have : y.1 ≠ q := fun e => hq (e.symm.trans h)
        simp [hq, this]
    · rename_i h
      rw [Memory.read_cons, ih]
      by_cases hq : q = x
      · simp [hq, h]
      · simp [hq]

theorem Memory.read_insert (c : Host.Cell) (m : Memory) (q : Nat) (hfree : ∀ y ∈ m, y.1 ≠ c.1) :
    (Memory.insert c m).read q = if q = c.1 then c.2 else m.read q := by
  induction m with
  | nil => simp only [Memory.insert, Memory.read_cons, Memory.read_nil, eq_comm]
  | cons y m ih =>
    have hy : y.1 ≠ c.1 := hfree y (by simp)
    have hm : ∀ z ∈ m, z.1 ≠ c.1 := fun z hz => hfree z (by simp [hz])
    simp only [Memory.insert]
    split
    · simp only [Memory.read_cons, eq_comm]
    · simp only [Memory.read_cons, ih hm]
      by_cases hq : q = c.1
      · simp [hq, hy]
      · simp [hq]

theorem Memory.ne_of_mem_erase {m : Memory} {x : Nat} {y : Host.Cell} (h : y ∈ m.erase x) : y.1 ≠ x := by
  simp only [Memory.erase, List.mem_filter, bne_iff_ne] at h
  exact h.2

/-- What every address reads after a write: the written value at the written address, as before elsewhere. -/
theorem Memory.read_write (m : Memory) (x q : Nat) (v : Byte) :
    (m.write x v).read q = if q = x then v else m.read q := by
  simp only [Memory.write]
  split
  · rename_i hv
    rw [Memory.read_erase, hv]
  · rw [Memory.read_insert _ _ _ (fun y hy => Memory.ne_of_mem_erase hy), Memory.read_erase]
    by_cases hq : q = x <;> simp [hq]

theorem State.read8_write8 (s : State) (x q : Word) (v : Byte) :
    (s.write8 x v).read8 q = if q = x then v else s.read8 q := by
  simp only [State.read8, State.write8, Memory.read_write, BitVec.toNat_inj]

/-! ## The canonical form -/

theorem Memory.wf_nil : Memory.wf [] := ⟨List.Pairwise.nil, fun _ h => absurd h List.not_mem_nil⟩

theorem State.wf_resetWith (cfg : Config) (turns : List Turn) : (State.resetWith cfg turns).mem.wf := Memory.wf_nil

theorem State.wf_reset : State.reset.mem.wf := Memory.wf_nil

theorem Memory.wf_erase {m : Memory} (h : m.wf) (x : Nat) : (m.erase x).wf :=
  ⟨h.1.filter _, fun y hy => h.2 y (List.mem_filter.mp hy).1⟩

theorem Memory.mem_insert {c y : Host.Cell} {m : Memory} : y ∈ Memory.insert c m ↔ y = c ∨ y ∈ m := by
  induction m with
  | nil => simp [Memory.insert]
  | cons z m ih =>
    simp only [Memory.insert]
    split
    · simp
    · simp only [List.mem_cons, ih]
      tauto

theorem Memory.wf_insert {c : Host.Cell} {m : Memory} (h : m.wf) (hc : c.1 < 65536 ∧ c.2 ≠ 0)
    (hfree : ∀ y ∈ m, y.1 ≠ c.1) : (Memory.insert c m).wf := by
  refine ⟨?_, fun y hy => ?_⟩
  · induction m with
    | nil => simp [Memory.insert]
    | cons z m ih =>
      have hz := List.pairwise_cons.mp h.1
      simp only [Memory.insert]
      split
      · rename_i hlt
        refine List.pairwise_cons.mpr ⟨fun y hy => ?_, h.1⟩
        rcases List.mem_cons.mp hy with rfl | hy
        · exact hlt
        · exact hlt.trans (hz.1 y hy)
      · rename_i hge
        have hne := hfree z (by simp)
        refine List.pairwise_cons.mpr ⟨fun y hy => ?_, ih ⟨hz.2, fun y hy => h.2 y (by simp [hy])⟩
          (fun y hy => hfree y (by simp [hy]))⟩
        rcases Memory.mem_insert.mp hy with rfl | hy
        · omega
        · exact hz.1 y hy
  · rcases Memory.mem_insert.mp hy with rfl | hy
    · exact hc
    · exact h.2 y hy

/-- A write below 65536 keeps the canonical form. -/
theorem Memory.wf_write {m : Memory} (h : m.wf) {x : Nat} (hx : x < 65536) (v : Byte) : (m.write x v).wf := by
  simp only [Memory.write]
  split
  · exact Memory.wf_erase h x
  · rename_i hv
    exact Memory.wf_insert (Memory.wf_erase h x) ⟨hx, hv⟩ (fun y hy => Memory.ne_of_mem_erase hy)

theorem State.wf_write8 {s : State} (h : s.mem.wf) (x : Word) (v : Byte) : (s.write8 x v).mem.wf :=
  Memory.wf_write h x.isLt v

theorem State.wf_write16 {s : State} (h : s.mem.wf) (x v : Word) : (s.write16 x v).mem.wf :=
  State.wf_write8 (State.wf_write8 h _ _) _ _

theorem State.wf_push16 {s : State} (h : s.mem.wf) (v : Word) : (s.push16 v).mem.wf :=
  Memory.wf_write (Memory.wf_write h (BitVec.isLt _) _) (BitVec.isLt _) _

theorem State.wf_storeBytes {s : State} (h : s.mem.wf) (x : Word) (vs : List Byte) : (s.storeBytes x vs).mem.wf := by
  induction vs generalizing s x with
  | nil => exact h
  | cons v vs ih => exact ih (State.wf_write8 h _ _) _

/-- An address below the first listed one reads 0x00. -/
theorem Memory.read_eq_zero_of_lt {m : Memory} {x : Nat} (h : ∀ y ∈ m, x < y.1) : m.read x = 0 := by
  induction m with
  | nil => rfl
  | cons y m ih =>
    have := h y (by simp)
    rw [Memory.read_cons, if_neg (by omega)]
    exact ih (fun z hz => h z (by simp [hz]))

/-- Two memories in canonical form that read the same are the same data. -/
theorem Memory.eq_of_read_eq {m m' : Memory} (h : m.wf) (h' : m'.wf) (hr : ∀ x, m.read x = m'.read x) : m = m' := by
  induction m generalizing m' with
  | nil =>
    cases m' with
    | nil => rfl
    | cons y m' =>
      have := hr y.1
      rw [Memory.read_cons, if_pos rfl] at this
      exact absurd this.symm (h'.2 y (by simp)).2
  | cons y m ih =>
    cases m' with
    | nil =>
      have := hr y.1
      rw [Memory.read_cons, if_pos rfl] at this
      exact absurd this (h.2 y (by simp)).2
    | cons z m' =>
      have hy := List.pairwise_cons.mp h.1
      have hz := List.pairwise_cons.mp h'.1
      have key : y.1 = z.1 := by
        rcases Nat.lt_trichotomy y.1 z.1 with hlt | heq | hgt
        · have h1 := hr y.1
          rw [Memory.read_cons, if_pos rfl, Memory.read_eq_zero_of_lt (m := z :: m')] at h1
          · exact absurd h1 (h.2 y (by simp)).2
          · intro w hw
            rcases List.mem_cons.mp hw with rfl | hw
            · exact hlt
            · exact hlt.trans (hz.1 w hw)
        · exact heq
        · have h1 := hr z.1
          rw [Memory.read_cons (y := z), if_pos rfl, Memory.read_eq_zero_of_lt (m := y :: m)] at h1
          · exact absurd h1.symm (h'.2 z (by simp)).2
          · intro w hw
            rcases List.mem_cons.mp hw with rfl | hw
            · exact hgt
            · exact hgt.trans (hy.1 w hw)
      have hv : y.2 = z.2 := by
        have h1 := hr y.1
        rwa [Memory.read_cons, if_pos rfl, Memory.read_cons, if_pos key.symm] at h1
      have hyz : y = z := Prod.ext key hv
      subst hyz
      congr 1
      refine ih ⟨hy.2, fun w hw => h.2 w (by simp [hw])⟩ ⟨hz.2, fun w hw => h'.2 w (by simp [hw])⟩ (fun x => ?_)
      by_cases hx : y.1 = x
      · rw [Memory.read_eq_zero_of_lt (fun w hw => hx ▸ hy.1 w hw),
          Memory.read_eq_zero_of_lt (fun w hw => hx ▸ hz.1 w hw)]
      · have h1 := hr x
        rwa [Memory.read_cons, if_neg hx, Memory.read_cons, if_neg hx] at h1

end Sys2Proof.Machine
end

