-- ==== Sys2Proof/Laws/Ops.lean ====
section
/-! SUPPORT. One lemma per shared operation: the whole state it leaves. Later proofs cite these and do not unfold the
operation. -/

namespace Sys2Proof.Machine

@[simp] theorem State.operand_advance (s : State) (n : Word) (x : Loc) : (s.advance n).operand x = s.operand x := by
  cases x
  · simp [State.operand]
  · rfl

@[simp] theorem State.cond_advance (s : State) (n : Word) (k : Cond) : (s.advance n).cond k = s.cond k := by
  cases k <;> rfl

@[simp] theorem State.read8_advance (s : State) (n x : Word) : (s.advance n).read8 x = s.read8 x := rfl

theorem toNat_mk16 (x y : Byte) : (mk16 x y).toNat = x.toNat * 256 + y.toNat := by
  have h := y.isLt
  simp only [mk16, BitVec.toNat_append]
  rw [← Nat.shiftLeft_add_eq_or_of_lt h, Nat.shiftLeft_eq]

theorem toNat_loByte (v : Word) : (loByte v).toNat = v.toNat % 256 := by
  simp [loByte]

theorem toNat_hiByte (v : Word) : (hiByte v).toNat = v.toNat / 256 := by
  have h := v.isLt
  simp only [hiByte, BitVec.extractLsb'_toNat, Nat.shiftRight_eq_div_pow]
  omega

@[simp] theorem loByte_mk16 (x y : Byte) : loByte (mk16 x y) = y := by
  have h := y.isLt
  refine BitVec.eq_of_toNat_eq ?_
  rw [toNat_loByte, toNat_mk16]
  omega

@[simp] theorem hiByte_mk16 (x y : Byte) : hiByte (mk16 x y) = x := by
  have h := y.isLt
  refine BitVec.eq_of_toNat_eq ?_
  rw [toNat_hiByte, toNat_mk16]
  omega

@[simp] theorem mk16_hiByte_loByte (v : Word) : mk16 (hiByte v) (loByte v) = v := by
  refine BitVec.eq_of_toNat_eq ?_
  rw [toNat_mk16, toNat_hiByte, toNat_loByte]
  omega

/-- Flag Computation writes F and nothing else. -/
theorem State.flagCompute_eq (s : State) (r : Word) (k : Category) :
    s.flagCompute r k = { s with f := (s.flagCompute r k).f } := by
  simp [State.flagCompute, State.setFlag, State.setF]

/-- Setting `pc` and F commutes with writing an operand. -/
theorem State.setOperand_pc_f (s : State) (x : Loc) (v fl : Byte) (n : Word) :
    { (s.advance n).setOperand x v with f := fl } = { s with pc := s.pc + n, f := fl }.setOperand x v := by
  rcases x with r | _
  · cases r <;> rfl
  · rfl

theorem mov_eq (dst src : Loc) (s : State) :
    mov dst src s = { s with pc := s.pc + 1 }.setOperand dst (s.operand src) := by
  simp only [mov, State.operand_advance]
  rfl

theorem mvi_eq (dst : Loc) (v : Byte) (s : State) : mvi dst v s = { s with pc := s.pc + 2 }.setOperand dst v := rfl

/-- The ALU step: A, F and nothing else. -/
theorem alu_eq (op : AluOp) (v : Byte) (s : State) :
    alu op v s = { s with
      a := if op = .cmp then s.a else loByte (aluResult op s.a v (s.flag .cy))
      f := (alu op v s).f } := by
  simp only [alu]
  split <;> simp [State.flagCompute, State.setFlag, State.setF, *]

theorem alu_flags (op : AluOp) (v : Byte) (s : State) :
    FlagsWritten s.f (alu op v s).f (loByte (aluResult op s.a v (s.flag .cy)))
      (carryAfter (aluResult op s.a v (s.flag .cy)) (aluCategory op) (s.flag .cy)) := by
  simp only [alu]
  split <;> exact State.flagsWritten_flagCompute _ _ _

theorem inr_eq (x : Loc) (s : State) :
    ∃ f, inr x s = { s with pc := s.pc + 1, f := f }.setOperand x (s.operand x + 1) ∧
      FlagsWritten s.f f (s.operand x + 1) (s.flag .cy) := by
  have hlo : loByte ((s.operand x).setWidth 16 + 1) = s.operand x + 1 := by
    simp only [loByte]
    bv_omega
  refine ⟨(inr x s).f, ?_, ?_⟩
  · simp only [inr, State.operand_advance, hlo]
    rw [State.flagCompute_eq]
    exact State.setOperand_pc_f s x _ _ 1
  · have h := State.flagsWritten_flagCompute ((s.advance 1).setOperand x (s.operand x + 1))
      ((s.operand x).setWidth 16 + 1) .incrementOrDecrement
    rw [hlo] at h
    simp only [inr, State.operand_advance, hlo]
    simpa only [State.flag_eq, carryAfter, State.setOperand_f, State.advance_f] using h

theorem dcr_eq (x : Loc) (s : State) :
    ∃ f, dcr x s = { s with pc := s.pc + 1, f := f }.setOperand x (s.operand x - 1) ∧
      FlagsWritten s.f f (s.operand x - 1) (s.flag .cy) := by
  have hlo : loByte ((s.operand x).setWidth 16 - 1) = s.operand x - 1 := by
    simp only [loByte]
    bv_omega
  refine ⟨(dcr x s).f, ?_, ?_⟩
  · simp only [dcr, State.operand_advance, hlo]
    rw [State.flagCompute_eq]
    exact State.setOperand_pc_f s x _ _ 1
  · have h := State.flagsWritten_flagCompute ((s.advance 1).setOperand x (s.operand x - 1))
      ((s.operand x).setWidth 16 - 1) .incrementOrDecrement
    rw [hlo] at h
    simp only [dcr, State.operand_advance, hlo]
    simpa only [State.flag_eq, carryAfter, State.setOperand_f, State.advance_f] using h

theorem rotate_eq (r : Byte) (k : Bool) (s : State) :
    rotate r k s = { s with pc := s.pc + 1, a := r, f := setBit s.f 0 k } := rfl

theorem jump_eq (taken : Bool) (a : Word) (s : State) :
    jump taken a s = { s with pc := if taken then a else s.pc + 3 } := by
  cases taken <;> rfl

theorem callTo_eq (taken : Bool) (a : Word) (s : State) :
    callTo taken a s = if taken then { s with
        pc := a
        sp := s.sp - 2
        mem := (s.mem.write (s.sp - 1).toNat (hiByte (s.pc + 3))).write (s.sp - 2).toNat (loByte (s.pc + 3)) }
      else { s with pc := s.pc + 3 } := by
  cases taken
  · rfl
  · simp only [callTo, if_true, State.push16_eq]
    rfl

theorem ret_eq (taken : Bool) (s : State) :
    ret taken s = if taken then { s with pc := mk16 (s.read8 (s.sp + 1)) (s.read8 s.sp), sp := s.sp + 2 }
      else { s with pc := s.pc + 1 } := by
  cases taken
  · rfl
  · simp only [ret, if_true, State.pop16_state]
    rfl

theorem push_eq (p : StackPair) (s : State) :
    push p s = { s with
      pc := s.pc + 1
      sp := s.sp - 2
      mem := (s.mem.write (s.sp - 1).toNat (hiByte (s.stackPair p))).write (s.sp - 2).toNat
        (loByte (s.stackPair p)) } := by
  have h : (s.advance 1).stackPair p = s.stackPair p := by cases p <;> rfl
  simp only [push, State.push16_eq, h]
  rfl

theorem pop_eq (p : StackPair) (s : State) :
    pop p s = { s with pc := s.pc + 1, sp := s.sp + 2 }.setStackPair p
      (mk16 (s.read8 (s.sp + 1)) (s.read8 s.sp)) := by
  simp only [pop, State.pop16_state]
  rfl

/-- Everything one command can do: the failing ones nothing, the others one mutation each. -/
theorem inspect_cases (k : Command) (s : State) :
    (inspect k s).2 = s ∨ (∃ r v, (inspect k s).2 = s.setReg r v) ∨ (∃ p v, (inspect k s).2 = s.setPortPair p v) ∨
    (∃ v, (inspect k s).2 = s.setF v) ∨ (∃ n v, (inspect k s).2 = s.setFlag n v) ∨
    (∃ v, (inspect k s).2 = s.setPc v) ∨ (∃ v, (inspect k s).2 = s.setSp v) ∨
    (∃ x v, (inspect k s).2 = s.write8 x v) ∨ (∃ v, (inspect k s).2 = s.setRunning v) ∨
    (∃ t, (inspect k s).2 = { s with throttle := t }) ∨ (inspect k s).2 = { s with inspectorDone := true } := by
  cases k with
  | writeReg id v =>
    simp only [inspect]
    cases portReg id with
    | none => exact .inl rfl
    | some r => exact .inr (.inl ⟨r, v, rfl⟩)
  | writePair q v =>
    simp only [inspect]
    cases portPair q with
    | none => exact .inl rfl
    | some p => exact .inr (.inr (.inl ⟨p, v, rfl⟩))
  | writeF v => exact .inr (.inr (.inr (.inl ⟨v, rfl⟩)))
  | writeFlag n v =>
    cases n with
    | none => exact .inl rfl
    | some n => exact .inr (.inr (.inr (.inr (.inl ⟨n, v, rfl⟩))))
  | writePC v => exact .inr (.inr (.inr (.inr (.inr (.inl ⟨v, rfl⟩)))))
  | writeSP v => exact .inr (.inr (.inr (.inr (.inr (.inr (.inl ⟨v, rfl⟩))))))
  | writeMem x v =>
    simp only [inspect]
    split
    · exact .inr (.inr (.inr (.inr (.inr (.inr (.inr (.inl ⟨_, v, rfl⟩)))))))
    · exact .inl rfl
  | writeRunning v => exact .inr (.inr (.inr (.inr (.inr (.inr (.inr (.inr (.inl ⟨v, rfl⟩))))))))
  | writeThrottle t => exact .inr (.inr (.inr (.inr (.inr (.inr (.inr (.inr (.inr (.inl ⟨t, rfl⟩)))))))))
  | terminate => exact .inr (.inr (.inr (.inr (.inr (.inr (.inr (.inr (.inr (.inr rfl)))))))))
  | readReg id =>
    simp only [inspect]
    cases portReg id <;> exact .inl rfl
  | readPair q =>
    simp only [inspect]
    cases portPair q <;> exact .inl rfl
  | readFlag n => cases n <;> exact .inl rfl
  | readMem x =>
    simp only [inspect]
    split <;> exact .inl rfl
  | readF => exact .inl rfl
  | readPC => exact .inl rfl
  | readSP => exact .inl rfl
  | readRunning => exact .inl rfl
  | readThrottle => exact .inl rfl
  | dumpState => exact .inl rfl

/-- A command turn of a terminated inspector is void. -/
theorem issue_of_done {s : State} (h : s.inspectorDone = true) (k : Command) : issue k s = s := by
  simp only [issue, h, if_true]

/-- Any other command turn performs its command and records the reply. -/
theorem issue_of_not_done {s : State} (h : s.inspectorDone = false) (k : Command) :
    issue k s = { (inspect k s).2 with replies := s.replies ++ [(inspect k s).1] } := by
  simp only [issue, h, Bool.false_eq_true, if_false]

/-- Everything one cycle can do. -/
theorem cycle_cases (s : State) :
    (s.phase ≠ .running ∧ cycle s = .next s) ∨
    (s.phase = .running ∧ s.running = false ∧ cycle s = .next { s with phase := .halted }) ∨
    (s.phase = .running ∧ s.running = true ∧ s.cfg.stackBoundary.toNat ≤ s.pc.toNat ∧
      cycle s = .next { s with phase := .outOfBounds }) ∨
    (s.phase = .running ∧ s.running = true ∧ s.pc.toNat < s.cfg.stackBoundary.toNat ∧ cycle s = exec s.instrAt s) := by
  by_cases hp : s.phase = .running
  · cases hr : s.running with
    | false => exact .inr (.inl ⟨hp, rfl, by simp [cycle, hp, hr]⟩)
    | true =>
      by_cases hb : s.cfg.stackBoundary.toNat ≤ s.pc.toNat
      · exact .inr (.inr (.inl ⟨hp, rfl, hb, by simp [cycle, hp, hr, hb]⟩))
      · exact .inr (.inr (.inr ⟨hp, rfl, by omega, by simp [cycle, hp, hr, hb]⟩))
  · exact .inl ⟨hp, by simp [cycle, hp]⟩

/-- Everything one step can do. -/
theorem step_cases (s : State) :
    (s.schedule = [] ∧ step s = cycle s) ∨
    (∃ rest, s.schedule = .cycle :: rest ∧ step s = cycle { s with schedule := rest }) ∨
    (∃ k rest, s.schedule = .command k :: rest ∧ step s = .next (issue k { s with schedule := rest })) := by
  match h : s.schedule with
  | [] => exact .inl ⟨rfl, by simp [step, takeTurn, h]⟩
  | .cycle :: rest => exact .inr (.inl ⟨rest, rfl, by simp [step, takeTurn, h]⟩)
  | .command k :: rest => exact .inr (.inr ⟨k, rest, rfl, by simp [step, takeTurn, h]⟩)

/-- A step on the sequencer's turn is a cycle from the state without that turn. -/
theorem step_eq_cycle {s : State} {turns : List Turn} (h : SequencerTurn s turns) :
    step s = cycle { s with schedule := turns } := by
  obtain ⟨hs, rfl⟩ | hs := h
  · have e : { s with schedule := [] } = s := by rw [← hs]
    rw [e]
    simp only [step, takeTurn, hs]
  · simp only [step, takeTurn, hs]

end Sys2Proof.Machine
end

