-- ==== Sys2Proof/Laws/Exec.lean ====
section
/-! SUPPORT. Everything an instruction can do: `exec` of an instruction is the state operation of its shape. A proof about every
instruction is then a proof about the 28 shapes. -/

namespace Sys2Proof.Machine

/-- An instruction as its operation and its operands; a condition of `none` always holds. -/
inductive Shape where
  | mov (dst src : Loc)
  | mvi (dst : Loc) (v : Byte)
  | alu (op : AluOp) (src : Loc)
  | aluImm (op : AluOp) (v : Byte)
  | inr (dst : Loc)
  | dcr (dst : Loc)
  | rlc
  | rrc
  | ral
  | rar
  | lxi (p : Pair) (v : Word)
  | ldax (p : IndPair)
  | stax (p : IndPair)
  | inx (p : Pair)
  | dcx (p : Pair)
  | push (p : StackPair)
  | pop (p : StackPair)
  | jump (k : Option Cond) (a : Word)
  | call (k : Option Cond) (a : Word)
  | ret (k : Option Cond)
  | nop
  | hlt
  | lda (a : Word)
  | sta (a : Word)
  | lhld (a : Word)
  | shld (a : Word)
  | xchg
  | undefined (op : Byte)
  deriving DecidableEq, Repr

/-- The condition of a shape, `none` holding always. -/
def State.holds (s : State) : Option Cond → Bool
  | none => true
  | some k => s.cond k

/-- The state a shape leaves. -/
def Shape.run (x : Shape) (s : State) : State :=
  match x with
  | .mov dst src => Machine.mov dst src s
  | .mvi dst v => Machine.mvi dst v s
  | .alu op src => aluLoc op src s
  | .aluImm op v => Machine.aluImm op v s
  | .inr dst => Machine.inr dst s
  | .dcr dst => Machine.dcr dst s
  | .rlc => Machine.rlc s
  | .rrc => Machine.rrc s
  | .ral => Machine.ral s
  | .rar => Machine.rar s
  | .lxi p v => Machine.lxi p v s
  | .ldax p => Machine.ldax p s
  | .stax p => Machine.stax p s
  | .inx p => Machine.inx p s
  | .dcx p => Machine.dcx p s
  | .push p => Machine.push p s
  | .pop p => Machine.pop p s
  | .jump k a => Machine.jump (s.holds k) a s
  | .call k a => callTo (s.holds k) a s
  | .ret k => Machine.ret (s.holds k) s
  | .nop => s.advance 1
  | .hlt => (s.advance 1).setRunning false
  | .lda a => (s.advance 3).setReg .a (s.read8 a)
  | .sta a => (s.advance 3).write8 a s.a
  | .lhld a => (s.advance 3).setPair .hl (s.read16 a)
  | .shld a => (s.advance 3).write16 a (s.pair .hl)
  | .xchg => ((s.advance 1).setPair .hl (s.pair .de)).setPair .de (s.pair .hl)
  | .undefined op => (s.advance 1).report s.pc op

/-- The family of a shape. -/
def Shape.family (x : Shape) : Family :=
  match x with
  | .mov _ _ => .mov
  | .mvi _ _ => .mvi
  | .alu _ _ => .alu
  | .aluImm _ _ => .aluImm
  | .inr _ => .inr
  | .dcr _ => .dcr
  | .rlc | .rrc | .ral | .rar => .rotate
  | .lxi _ _ => .lxi
  | .ldax _ => .ldax
  | .stax _ => .stax
  | .inx _ => .inx
  | .dcx _ => .dcx
  | .push _ => .push
  | .pop .psw => .popPsw
  | .pop _ => .pop
  | .jump none _ => .jmp
  | .jump (some _) _ => .jcc
  | .call none _ => .call
  | .call (some _) _ => .ccc
  | .ret none => .ret
  | .ret (some _) => .rcc
  | .nop => .nop
  | .hlt => .hlt
  | .lda _ => .lda
  | .sta _ => .sta
  | .lhld _ => .lhld
  | .shld _ => .shld
  | .xchg => .xchg
  | .undefined _ => .undefined

/-- The addresses a shape stores to. -/
def Shape.storesTo (x : Shape) (s : State) : List Word :=
  match x with
  | .mov .m _ => [s.mAddr]
  | .mvi .m _ => [s.mAddr]
  | .inr .m => [s.mAddr]
  | .dcr .m => [s.mAddr]
  | .stax p => [s.indPair p]
  | .push _ => [s.sp - 1, s.sp - 2]
  | .call none _ => [s.sp - 1, s.sp - 2]
  | .call (some k) _ => if s.cond k then [s.sp - 1, s.sp - 2] else []
  | .sta a => [a]
  | .shld a => [a, a + 1]
  | _ => []

/-- How many bytes a shape is long. -/
def Shape.length (x : Shape) : Nat :=
  match x with
  | .mvi _ _ | .aluImm _ _ => 2
  | .lxi _ _ | .jump _ _ | .call _ _ | .lda _ | .sta _ | .lhld _ | .shld _ => 3
  | _ => 1

/-- The shape of an instruction. -/
def shapeOf (i : Instr) : Shape :=
  match i with
  | .movBB => .mov (.reg .b) (.reg .b)
  | .movBC => .mov (.reg .b) (.reg .c)
  | .movBD => .mov (.reg .b) (.reg .d)
  | .movBE => .mov (.reg .b) (.reg .e)
  | .movBH => .mov (.reg .b) (.reg .h)
  | .movBL => .mov (.reg .b) (.reg .l)
  | .movBM => .mov (.reg .b) .m
  | .movBA => .mov (.reg .b) (.reg .a)
  | .movCB => .mov (.reg .c) (.reg .b)
  | .movCC => .mov (.reg .c) (.reg .c)
  | .movCD => .mov (.reg .c) (.reg .d)
  | .movCE => .mov (.reg .c) (.reg .e)
  | .movCH => .mov (.reg .c) (.reg .h)
  | .movCL => .mov (.reg .c) (.reg .l)
  | .movCM => .mov (.reg .c) .m
  | .movCA => .mov (.reg .c) (.reg .a)
  | .movDB => .mov (.reg .d) (.reg .b)
  | .movDC => .mov (.reg .d) (.reg .c)
  | .movDD => .mov (.reg .d) (.reg .d)
  | .movDE => .mov (.reg .d) (.reg .e)
  | .movDH => .mov (.reg .d) (.reg .h)
  | .movDL => .mov (.reg .d) (.reg .l)
  | .movDM => .mov (.reg .d) .m
  | .movDA => .mov (.reg .d) (.reg .a)
  | .movEB => .mov (.reg .e) (.reg .b)
  | .movEC => .mov (.reg .e) (.reg .c)
  | .movED => .mov (.reg .e) (.reg .d)
  | .movEE => .mov (.reg .e) (.reg .e)
  | .movEH => .mov (.reg .e) (.reg .h)
  | .movEL => .mov (.reg .e) (.reg .l)
  | .movEM => .mov (.reg .e) .m
  | .movEA => .mov (.reg .e) (.reg .a)
  | .movHB => .mov (.reg .h) (.reg .b)
  | .movHC => .mov (.reg .h) (.reg .c)
  | .movHD => .mov (.reg .h) (.reg .d)
  | .movHE => .mov (.reg .h) (.reg .e)
  | .movHH => .mov (.reg .h) (.reg .h)
  | .movHL => .mov (.reg .h) (.reg .l)
  | .movHM => .mov (.reg .h) .m
  | .movHA => .mov (.reg .h) (.reg .a)
  | .movLB => .mov (.reg .l) (.reg .b)
  | .movLC => .mov (.reg .l) (.reg .c)
  | .movLD => .mov (.reg .l) (.reg .d)
  | .movLE => .mov (.reg .l) (.reg .e)
  | .movLH => .mov (.reg .l) (.reg .h)
  | .movLL => .mov (.reg .l) (.reg .l)
  | .movLM => .mov (.reg .l) .m
  | .movLA => .mov (.reg .l) (.reg .a)
  | .movMB => .mov .m (.reg .b)
  | .movMC => .mov .m (.reg .c)
  | .movMD => .mov .m (.reg .d)
  | .movME => .mov .m (.reg .e)
  | .movMH => .mov .m (.reg .h)
  | .movML => .mov .m (.reg .l)
  | .movMA => .mov .m (.reg .a)
  | .movAB => .mov (.reg .a) (.reg .b)
  | .movAC => .mov (.reg .a) (.reg .c)
  | .movAD => .mov (.reg .a) (.reg .d)
  | .movAE => .mov (.reg .a) (.reg .e)
  | .movAH => .mov (.reg .a) (.reg .h)
  | .movAL => .mov (.reg .a) (.reg .l)
  | .movAM => .mov (.reg .a) .m
  | .movAA => .mov (.reg .a) (.reg .a)
  | .mviB v => .mvi (.reg .b) v
  | .mviC v => .mvi (.reg .c) v
  | .mviD v => .mvi (.reg .d) v
  | .mviE v => .mvi (.reg .e) v
  | .mviH v => .mvi (.reg .h) v
  | .mviL v => .mvi (.reg .l) v
  | .mviM v => .mvi .m v
  | .mviA v => .mvi (.reg .a) v
  | .addB => .alu .add (.reg .b)
  | .addC => .alu .add (.reg .c)
  | .addD => .alu .add (.reg .d)
  | .addE => .alu .add (.reg .e)
  | .addH => .alu .add (.reg .h)
  | .addL => .alu .add (.reg .l)
  | .addM => .alu .add .m
  | .addA => .alu .add (.reg .a)
  | .adcB => .alu .adc (.reg .b)
  | .adcC => .alu .adc (.reg .c)
  | .adcD => .alu .adc (.reg .d)
  | .adcE => .alu .adc (.reg .e)
  | .adcH => .alu .adc (.reg .h)
  | .adcL => .alu .adc (.reg .l)
  | .adcM => .alu .adc .m
  | .adcA => .alu .adc (.reg .a)
  | .subB => .alu .sub (.reg .b)
  | .subC => .alu .sub (.reg .c)
  | .subD => .alu .sub (.reg .d)
  | .subE => .alu .sub (.reg .e)
  | .subH => .alu .sub (.reg .h)
  | .subL => .alu .sub (.reg .l)
  | .subM => .alu .sub .m
  | .subA => .alu .sub (.reg .a)
  | .sbbB => .alu .sbb (.reg .b)
  | .sbbC => .alu .sbb (.reg .c)
  | .sbbD => .alu .sbb (.reg .d)
  | .sbbE => .alu .sbb (.reg .e)
  | .sbbH => .alu .sbb (.reg .h)
  | .sbbL => .alu .sbb (.reg .l)
  | .sbbM => .alu .sbb .m
  | .sbbA => .alu .sbb (.reg .a)
  | .anaB => .alu .ana (.reg .b)
  | .anaC => .alu .ana (.reg .c)
  | .anaD => .alu .ana (.reg .d)
  | .anaE => .alu .ana (.reg .e)
  | .anaH => .alu .ana (.reg .h)
  | .anaL => .alu .ana (.reg .l)
  | .anaM => .alu .ana .m
  | .anaA => .alu .ana (.reg .a)
  | .xraB => .alu .xra (.reg .b)
  | .xraC => .alu .xra (.reg .c)
  | .xraD => .alu .xra (.reg .d)
  | .xraE => .alu .xra (.reg .e)
  | .xraH => .alu .xra (.reg .h)
  | .xraL => .alu .xra (.reg .l)
  | .xraM => .alu .xra .m
  | .xraA => .alu .xra (.reg .a)
  | .oraB => .alu .ora (.reg .b)
  | .oraC => .alu .ora (.reg .c)
  | .oraD => .alu .ora (.reg .d)
  | .oraE => .alu .ora (.reg .e)
  | .oraH => .alu .ora (.reg .h)
  | .oraL => .alu .ora (.reg .l)
  | .oraM => .alu .ora .m
  | .oraA => .alu .ora (.reg .a)
  | .cmpB => .alu .cmp (.reg .b)
  | .cmpC => .alu .cmp (.reg .c)
  | .cmpD => .alu .cmp (.reg .d)
  | .cmpE => .alu .cmp (.reg .e)
  | .cmpH => .alu .cmp (.reg .h)
  | .cmpL => .alu .cmp (.reg .l)
  | .cmpM => .alu .cmp .m
  | .cmpA => .alu .cmp (.reg .a)
  | .adi v => .aluImm .add v
  | .aci v => .aluImm .adc v
  | .sui v => .aluImm .sub v
  | .sbi v => .aluImm .sbb v
  | .ani v => .aluImm .ana v
  | .xri v => .aluImm .xra v
  | .ori v => .aluImm .ora v
  | .cpi v => .aluImm .cmp v
  | .inrB => .inr (.reg .b)
  | .inrC => .inr (.reg .c)
  | .inrD => .inr (.reg .d)
  | .inrE => .inr (.reg .e)
  | .inrH => .inr (.reg .h)
  | .inrL => .inr (.reg .l)
  | .inrM => .inr .m
  | .inrA => .inr (.reg .a)
  | .dcrB => .dcr (.reg .b)
  | .dcrC => .dcr (.reg .c)
  | .dcrD => .dcr (.reg .d)
  | .dcrE => .dcr (.reg .e)
  | .dcrH => .dcr (.reg .h)
  | .dcrL => .dcr (.reg .l)
  | .dcrM => .dcr .m
  | .dcrA => .dcr (.reg .a)
  | .rlc => .rlc
  | .rrc => .rrc
  | .ral => .ral
  | .rar => .rar
  | .lxiB v => .lxi .bc v
  | .lxiD v => .lxi .de v
  | .lxiH v => .lxi .hl v
  | .lxiSp v => .lxi .sp v
  | .ldaxB => .ldax .bc
  | .ldaxD => .ldax .de
  | .staxB => .stax .bc
  | .staxD => .stax .de
  | .inxB => .inx .bc
  | .inxD => .inx .de
  | .inxH => .inx .hl
  | .inxSp => .inx .sp
  | .dcxB => .dcx .bc
  | .dcxD => .dcx .de
  | .dcxH => .dcx .hl
  | .dcxSp => .dcx .sp
  | .pushB => .push .bc
  | .pushD => .push .de
  | .pushH => .push .hl
  | .pushPsw => .push .psw
  | .popB => .pop .bc
  | .popD => .pop .de
  | .popH => .pop .hl
  | .popPsw => .pop .psw
  | .jmp a => .jump none a
  | .jnz a => .jump (some .nz) a
  | .jz a => .jump (some .z) a
  | .jnc a => .jump (some .nc) a
  | .jc a => .jump (some .c) a
  | .jpo a => .jump (some .po) a
  | .jpe a => .jump (some .pe) a
  | .jp a => .jump (some .p) a
  | .jm a => .jump (some .m) a
  | .call a => .call none a
  | .cnz a => .call (some .nz) a
  | .cz a => .call (some .z) a
  | .cnc a => .call (some .nc) a
  | .cc a => .call (some .c) a
  | .cpo a => .call (some .po) a
  | .cpe a => .call (some .pe) a
  | .cp a => .call (some .p) a
  | .cm a => .call (some .m) a
  | .ret => .ret none
  | .rnz => .ret (some .nz)
  | .rz => .ret (some .z)
  | .rnc => .ret (some .nc)
  | .rc => .ret (some .c)
  | .rpo => .ret (some .po)
  | .rpe => .ret (some .pe)
  | .rp => .ret (some .p)
  | .rm => .ret (some .m)
  | .nop => .nop
  | .hlt => .hlt
  | .lda a => .lda a
  | .sta a => .sta a
  | .lhld a => .lhld a
  | .shld a => .shld a
  | .xchg => .xchg
  | .undefined op => .undefined op

/-- Every instruction answers a next state, the one of its shape. -/
theorem exec_eq (i : Instr) (s : State) : exec i s = .next ((shapeOf i).run s) := by
  cases i <;> rfl

theorem family_shapeOf (i : Instr) : (shapeOf i).family = familyOf i := by
  cases i <;> rfl

theorem storesTo_shapeOf (i : Instr) (s : State) : (shapeOf i).storesTo s = storesTo i s := by
  cases i <;> rfl

theorem length_shapeOf (i : Instr) : (shapeOf i).length = (encode i).length := by
  cases i <;> rfl

theorem shapeOf_mkMov (dst src : Loc) (h : ¬(dst = .m ∧ src = .m)) : shapeOf (mkMov dst src) = .mov dst src := by
  rcases dst with r | _ <;> rcases src with q | _
  · cases r <;> cases q <;> rfl
  · cases r <;> rfl
  · cases q <;> rfl
  · exact absurd ⟨rfl, rfl⟩ h

theorem shapeOf_mkMvi (dst : Loc) (v : Byte) : shapeOf (mkMvi dst v) = .mvi dst v := by
  rcases dst with r | _
  · cases r <;> rfl
  · rfl

theorem shapeOf_mkAlu (op : AluOp) (src : Loc) : shapeOf (mkAlu op src) = .alu op src := by
  rcases src with r | _
  · cases op <;> cases r <;> rfl
  · cases op <;> rfl

theorem shapeOf_mkInr (x : Loc) : shapeOf (mkInr x) = .inr x := by
  rcases x with r | _
  · cases r <;> rfl
  · rfl

theorem shapeOf_mkDcr (x : Loc) : shapeOf (mkDcr x) = .dcr x := by
  rcases x with r | _
  · cases r <;> rfl
  · rfl

theorem shapeOf_mkJcc (k : Cond) (a : Word) : shapeOf (mkJcc k a) = .jump (some k) a := by cases k <;> rfl

theorem shapeOf_mkCcc (k : Cond) (a : Word) : shapeOf (mkCcc k a) = .call (some k) a := by cases k <;> rfl

theorem shapeOf_mkRcc (k : Cond) : shapeOf (mkRcc k) = .ret (some k) := by cases k <;> rfl

theorem shapeOf_mkPush (p : StackPair) : shapeOf (mkPush p) = .push p := by cases p <;> rfl

theorem shapeOf_mkPop (p : StackPair) : shapeOf (mkPop p) = .pop p := by cases p <;> rfl

/-- What a shape does to memory: nothing, or one or two byte writes at the addresses it stores to. -/
theorem Shape.mem_run (x : Shape) (s : State) :
    (x.run s).mem = s.mem ∧ x.storesTo s = [] ∨
    (∃ a v, x.storesTo s = [a] ∧ (x.run s).mem = s.mem.write a.toNat v) ∨
    (∃ a b v w, x.storesTo s = [a, b] ∧ (x.run s).mem = (s.mem.write a.toNat v).write b.toNat w) := by
  cases x with
  | mov x _ | mvi x _ =>
    cases x with
    | reg r => left; simp [Shape.run, mov_eq, mvi_eq, State.setOperand, Shape.storesTo]
    | m => right; left; exact ⟨_, _, rfl, rfl⟩
  | inr x =>
    obtain ⟨f, h1, h2⟩ := inr_eq x s
    simp only [Shape.run, h1]
    cases x with
    | reg r => left; simp [State.setOperand, Shape.storesTo]
    | m => right; left; exact ⟨_, _, rfl, rfl⟩
  | dcr x =>
    obtain ⟨f, h1, h2⟩ := dcr_eq x s
    simp only [Shape.run, h1]
    cases x with
    | reg r => left; simp [State.setOperand, Shape.storesTo]
    | m => right; left; exact ⟨_, _, rfl, rfl⟩
  | alu op x => left; simp only [Shape.run, aluLoc]; rw [alu_eq]; exact ⟨rfl, rfl⟩
  | aluImm op x => left; simp only [Shape.run, Machine.aluImm]; rw [alu_eq]; exact ⟨rfl, rfl⟩
  | stax p => right; left; cases p <;> exact ⟨_, _, rfl, rfl⟩
  | sta p => right; left; exact ⟨_, _, rfl, rfl⟩
  | shld p => right; right; exact ⟨_, _, _, _, rfl, rfl⟩
  | push p => right; right; simp only [Shape.run, push_eq]; exact ⟨_, _, _, _, rfl, rfl⟩
  | call k a =>
    simp only [Shape.run, callTo_eq, Shape.storesTo]
    cases k with
    | none => right; right; exact ⟨_, _, _, _, rfl, rfl⟩
    | some k =>
      cases hk : s.cond k
      · left; simp [State.holds, hk]
      · right; right; simp only [State.holds, hk]; exact ⟨_, _, _, _, rfl, rfl⟩
  | ret k => left; simp only [Shape.run, ret_eq]; split <;> simp [Shape.storesTo]
  | jump k a => left; simp [Shape.run, jump_eq, Shape.storesTo]
  | pop p => left; simp [Shape.run, pop_eq, Shape.storesTo]
  | inx p | dcx p | lxi p => left; simp [Shape.run, Machine.lxi, Machine.inx, Machine.dcx, Shape.storesTo]
  | lhld | xchg => left; simp [Shape.run, Shape.storesTo]
  | _ => left; exact ⟨rfl, rfl⟩

end Sys2Proof.Machine
end

