-- ==== Sys2Proof/Laws/PerInstr.lean ====
section
/-! SUPPORT. Families of statements about every instruction as syntax: one lemma per constructor. -/

namespace Sys2Proof.Laws.OpcodeFixesLength

/-- The first byte of an instruction's encoding fixes its length (30_encoding.md R80, R83): in every configuration that has
the instruction, the length the decoder takes from that byte is the length of the encoding, 1, 2 or 3. -/
def Statement (i : Instr) : Prop :=
  ∀ mode, WellFormed mode i = true →
    opLength mode ((encode i).headD 0) = (encode i).length ∧ 1 ≤ (encode i).length ∧ (encode i).length ≤ 3

/-- An instruction that every configuration binds. -/
theorem of_encode {i : Instr} {op : Byte} {rest : List Byte} {n : Nat} (h : encode i = op :: rest)
    (hl : n = rest.length + 1)
    (ho : (opLength .boundNeverTransfer op, opLength .unbound op) = (n, n)) (hr : n ≤ 3) : Statement i := by
  have hb : opLength .boundNeverTransfer op = n := congrArg Prod.fst ho
  have hu : opLength .unbound op = n := congrArg Prod.snd ho
  intro mode _
  rw [h]
  cases mode
  · exact ⟨hb.trans hl, by simp, by simp; omega⟩
  · exact ⟨hu.trans hl, by simp, by simp; omega⟩

/-- An instruction with an unwired condition: only the default mode has it. -/
theorem of_unwired {i : Instr} {op : Byte} {rest : List Byte} {n : Nat} (h : encode i = op :: rest)
    (hl : n = rest.length + 1)
    (ho : (opLength .boundNeverTransfer op, WellFormed .unbound i) = (n, false)) (hr : n ≤ 3) : Statement i := by
  have hb : opLength .boundNeverTransfer op = n := congrArg Prod.fst ho
  have hu : WellFormed .unbound i = false := congrArg Prod.snd ho
  intro mode hw
  rw [h]
  cases mode
  · exact ⟨hb.trans hl, by simp, by simp; omega⟩
  · exact absurd (hu.symm.trans hw) Bool.false_ne_true

theorem movBB : Statement .movBB :=
  of_encode (n := 1) rfl rfl rfl (by decide)

theorem movBC : Statement .movBC :=
  of_encode (n := 1) rfl rfl rfl (by decide)

theorem movBD : Statement .movBD :=
  of_encode (n := 1) rfl rfl rfl (by decide)

theorem movBE : Statement .movBE :=
  of_encode (n := 1) rfl rfl rfl (by decide)

theorem movBH : Statement .movBH :=
  of_encode (n := 1) rfl rfl rfl (by decide)

theorem movBL : Statement .movBL :=
  of_encode (n := 1) rfl rfl rfl (by decide)

theorem movBM : Statement .movBM :=
  of_encode (n := 1) rfl rfl rfl (by decide)

theorem movBA : Statement .movBA :=
  of_encode (n := 1) rfl rfl rfl (by decide)

theorem movCB : Statement .movCB :=
  of_encode (n := 1) rfl rfl rfl (by decide)

theorem movCC : Statement .movCC :=
  of_encode (n := 1) rfl rfl rfl (by decide)

theorem movCD : Statement .movCD :=
  of_encode (n := 1) rfl rfl rfl (by decide)

theorem movCE : Statement .movCE :=
  of_encode (n := 1) rfl rfl rfl (by decide)

theorem movCH : Statement .movCH :=
  of_encode (n := 1) rfl rfl rfl (by decide)

theorem movCL : Statement .movCL :=
  of_encode (n := 1) rfl rfl rfl (by decide)

theorem movCM : Statement .movCM :=
  of_encode (n := 1) rfl rfl rfl (by decide)

theorem movCA : Statement .movCA :=
  of_encode (n := 1) rfl rfl rfl (by decide)

theorem movDB : Statement .movDB :=
  of_encode (n := 1) rfl rfl rfl (by decide)

theorem movDC : Statement .movDC :=
  of_encode (n := 1) rfl rfl rfl (by decide)

theorem movDD : Statement .movDD :=
  of_encode (n := 1) rfl rfl rfl (by decide)

theorem movDE : Statement .movDE :=
  of_encode (n := 1) rfl rfl rfl (by decide)

theorem movDH : Statement .movDH :=
  of_encode (n := 1) rfl rfl rfl (by decide)

theorem movDL : Statement .movDL :=
  of_encode (n := 1) rfl rfl rfl (by decide)

theorem movDM : Statement .movDM :=
  of_encode (n := 1) rfl rfl rfl (by decide)

theorem movDA : Statement .movDA :=
  of_encode (n := 1) rfl rfl rfl (by decide)

theorem movEB : Statement .movEB :=
  of_encode (n := 1) rfl rfl rfl (by decide)

theorem movEC : Statement .movEC :=
  of_encode (n := 1) rfl rfl rfl (by decide)

theorem movED : Statement .movED :=
  of_encode (n := 1) rfl rfl rfl (by decide)

theorem movEE : Statement .movEE :=
  of_encode (n := 1) rfl rfl rfl (by decide)

theorem movEH : Statement .movEH :=
  of_encode (n := 1) rfl rfl rfl (by decide)

theorem movEL : Statement .movEL :=
  of_encode (n := 1) rfl rfl rfl (by decide)

theorem movEM : Statement .movEM :=
  of_encode (n := 1) rfl rfl rfl (by decide)

theorem movEA : Statement .movEA :=
  of_encode (n := 1) rfl rfl rfl (by decide)

theorem movHB : Statement .movHB :=
  of_encode (n := 1) rfl rfl rfl (by decide)

theorem movHC : Statement .movHC :=
  of_encode (n := 1) rfl rfl rfl (by decide)

theorem movHD : Statement .movHD :=
  of_encode (n := 1) rfl rfl rfl (by decide)

theorem movHE : Statement .movHE :=
  of_encode (n := 1) rfl rfl rfl (by decide)

theorem movHH : Statement .movHH :=
  of_encode (n := 1) rfl rfl rfl (by decide)

theorem movHL : Statement .movHL :=
  of_encode (n := 1) rfl rfl rfl (by decide)

theorem movHM : Statement .movHM :=
  of_encode (n := 1) rfl rfl rfl (by decide)

theorem movHA : Statement .movHA :=
  of_encode (n := 1) rfl rfl rfl (by decide)

theorem movLB : Statement .movLB :=
  of_encode (n := 1) rfl rfl rfl (by decide)

theorem movLC : Statement .movLC :=
  of_encode (n := 1) rfl rfl rfl (by decide)

theorem movLD : Statement .movLD :=
  of_encode (n := 1) rfl rfl rfl (by decide)

theorem movLE : Statement .movLE :=
  of_encode (n := 1) rfl rfl rfl (by decide)

theorem movLH : Statement .movLH :=
  of_encode (n := 1) rfl rfl rfl (by decide)

theorem movLL : Statement .movLL :=
  of_encode (n := 1) rfl rfl rfl (by decide)

theorem movLM : Statement .movLM :=
  of_encode (n := 1) rfl rfl rfl (by decide)

theorem movLA : Statement .movLA :=
  of_encode (n := 1) rfl rfl rfl (by decide)

theorem movMB : Statement .movMB :=
  of_encode (n := 1) rfl rfl rfl (by decide)

theorem movMC : Statement .movMC :=
  of_encode (n := 1) rfl rfl rfl (by decide)

theorem movMD : Statement .movMD :=
  of_encode (n := 1) rfl rfl rfl (by decide)

theorem movME : Statement .movME :=
  of_encode (n := 1) rfl rfl rfl (by decide)

theorem movMH : Statement .movMH :=
  of_encode (n := 1) rfl rfl rfl (by decide)

theorem movML : Statement .movML :=
  of_encode (n := 1) rfl rfl rfl (by decide)

theorem movMA : Statement .movMA :=
  of_encode (n := 1) rfl rfl rfl (by decide)

theorem movAB : Statement .movAB :=
  of_encode (n := 1) rfl rfl rfl (by decide)

theorem movAC : Statement .movAC :=
  of_encode (n := 1) rfl rfl rfl (by decide)

theorem movAD : Statement .movAD :=
  of_encode (n := 1) rfl rfl rfl (by decide)

theorem movAE : Statement .movAE :=
  of_encode (n := 1) rfl rfl rfl (by decide)

theorem movAH : Statement .movAH :=
  of_encode (n := 1) rfl rfl rfl (by decide)

theorem movAL : Statement .movAL :=
  of_encode (n := 1) rfl rfl rfl (by decide)

theorem movAM : Statement .movAM :=
  of_encode (n := 1) rfl rfl rfl (by decide)

theorem movAA : Statement .movAA :=
  of_encode (n := 1) rfl rfl rfl (by decide)

theorem mviB (v : Byte) : Statement (.mviB v) :=
  of_encode (n := 2) rfl rfl rfl (by decide)

theorem mviC (v : Byte) : Statement (.mviC v) :=
  of_encode (n := 2) rfl rfl rfl (by decide)

theorem mviD (v : Byte) : Statement (.mviD v) :=
  of_encode (n := 2) rfl rfl rfl (by decide)

theorem mviE (v : Byte) : Statement (.mviE v) :=
  of_encode (n := 2) rfl rfl rfl (by decide)

theorem mviH (v : Byte) : Statement (.mviH v) :=
  of_encode (n := 2) rfl rfl rfl (by decide)

theorem mviL (v : Byte) : Statement (.mviL v) :=
  of_encode (n := 2) rfl rfl rfl (by decide)

theorem mviM (v : Byte) : Statement (.mviM v) :=
  of_encode (n := 2) rfl rfl rfl (by decide)

theorem mviA (v : Byte) : Statement (.mviA v) :=
  of_encode (n := 2) rfl rfl rfl (by decide)

theorem addB : Statement .addB :=
  of_encode (n := 1) rfl rfl rfl (by decide)

theorem addC : Statement .addC :=
  of_encode (n := 1) rfl rfl rfl (by decide)

theorem addD : Statement .addD :=
  of_encode (n := 1) rfl rfl rfl (by decide)

theorem addE : Statement .addE :=
  of_encode (n := 1) rfl rfl rfl (by decide)

theorem addH : Statement .addH :=
  of_encode (n := 1) rfl rfl rfl (by decide)

theorem addL : Statement .addL :=
  of_encode (n := 1) rfl rfl rfl (by decide)

theorem addM : Statement .addM :=
  of_encode (n := 1) rfl rfl rfl (by decide)

theorem addA : Statement .addA :=
  of_encode (n := 1) rfl rfl rfl (by decide)

theorem adcB : Statement .adcB :=
  of_encode (n := 1) rfl rfl rfl (by decide)

theorem adcC : Statement .adcC :=
  of_encode (n := 1) rfl rfl rfl (by decide)

theorem adcD : Statement .adcD :=
  of_encode (n := 1) rfl rfl rfl (by decide)

theorem adcE : Statement .adcE :=
  of_encode (n := 1) rfl rfl rfl (by decide)

theorem adcH : Statement .adcH :=
  of_encode (n := 1) rfl rfl rfl (by decide)

theorem adcL : Statement .adcL :=
  of_encode (n := 1) rfl rfl rfl (by decide)

theorem adcM : Statement .adcM :=
  of_encode (n := 1) rfl rfl rfl (by decide)

theorem adcA : Statement .adcA :=
  of_encode (n := 1) rfl rfl rfl (by decide)

theorem subB : Statement .subB :=
  of_encode (n := 1) rfl rfl rfl (by decide)

theorem subC : Statement .subC :=
  of_encode (n := 1) rfl rfl rfl (by decide)

theorem subD : Statement .subD :=
  of_encode (n := 1) rfl rfl rfl (by decide)

theorem subE : Statement .subE :=
  of_encode (n := 1) rfl rfl rfl (by decide)

theorem subH : Statement .subH :=
  of_encode (n := 1) rfl rfl rfl (by decide)

theorem subL : Statement .subL :=
  of_encode (n := 1) rfl rfl rfl (by decide)

theorem subM : Statement .subM :=
  of_encode (n := 1) rfl rfl rfl (by decide)

theorem subA : Statement .subA :=
  of_encode (n := 1) rfl rfl rfl (by decide)

theorem sbbB : Statement .sbbB :=
  of_encode (n := 1) rfl rfl rfl (by decide)

theorem sbbC : Statement .sbbC :=
  of_encode (n := 1) rfl rfl rfl (by decide)

theorem sbbD : Statement .sbbD :=
  of_encode (n := 1) rfl rfl rfl (by decide)

theorem sbbE : Statement .sbbE :=
  of_encode (n := 1) rfl rfl rfl (by decide)

theorem sbbH : Statement .sbbH :=
  of_encode (n := 1) rfl rfl rfl (by decide)

theorem sbbL : Statement .sbbL :=
  of_encode (n := 1) rfl rfl rfl (by decide)

theorem sbbM : Statement .sbbM :=
  of_encode (n := 1) rfl rfl rfl (by decide)

theorem sbbA : Statement .sbbA :=
  of_encode (n := 1) rfl rfl rfl (by decide)

theorem anaB : Statement .anaB :=
  of_encode (n := 1) rfl rfl rfl (by decide)

theorem anaC : Statement .anaC :=
  of_encode (n := 1) rfl rfl rfl (by decide)

theorem anaD : Statement .anaD :=
  of_encode (n := 1) rfl rfl rfl (by decide)

theorem anaE : Statement .anaE :=
  of_encode (n := 1) rfl rfl rfl (by decide)

theorem anaH : Statement .anaH :=
  of_encode (n := 1) rfl rfl rfl (by decide)

theorem anaL : Statement .anaL :=
  of_encode (n := 1) rfl rfl rfl (by decide)

theorem anaM : Statement .anaM :=
  of_encode (n := 1) rfl rfl rfl (by decide)

theorem anaA : Statement .anaA :=
  of_encode (n := 1) rfl rfl rfl (by decide)

theorem xraB : Statement .xraB :=
  of_encode (n := 1) rfl rfl rfl (by decide)

theorem xraC : Statement .xraC :=
  of_encode (n := 1) rfl rfl rfl (by decide)

theorem xraD : Statement .xraD :=
  of_encode (n := 1) rfl rfl rfl (by decide)

theorem xraE : Statement .xraE :=
  of_encode (n := 1) rfl rfl rfl (by decide)

theorem xraH : Statement .xraH :=
  of_encode (n := 1) rfl rfl rfl (by decide)

theorem xraL : Statement .xraL :=
  of_encode (n := 1) rfl rfl rfl (by decide)

theorem xraM : Statement .xraM :=
  of_encode (n := 1) rfl rfl rfl (by decide)

theorem xraA : Statement .xraA :=
  of_encode (n := 1) rfl rfl rfl (by decide)

theorem oraB : Statement .oraB :=
  of_encode (n := 1) rfl rfl rfl (by decide)

theorem oraC : Statement .oraC :=
  of_encode (n := 1) rfl rfl rfl (by decide)

theorem oraD : Statement .oraD :=
  of_encode (n := 1) rfl rfl rfl (by decide)

theorem oraE : Statement .oraE :=
  of_encode (n := 1) rfl rfl rfl (by decide)

theorem oraH : Statement .oraH :=
  of_encode (n := 1) rfl rfl rfl (by decide)

theorem oraL : Statement .oraL :=
  of_encode (n := 1) rfl rfl rfl (by decide)

theorem oraM : Statement .oraM :=
  of_encode (n := 1) rfl rfl rfl (by decide)

theorem oraA : Statement .oraA :=
  of_encode (n := 1) rfl rfl rfl (by decide)

theorem cmpB : Statement .cmpB :=
  of_encode (n := 1) rfl rfl rfl (by decide)

theorem cmpC : Statement .cmpC :=
  of_encode (n := 1) rfl rfl rfl (by decide)

theorem cmpD : Statement .cmpD :=
  of_encode (n := 1) rfl rfl rfl (by decide)

theorem cmpE : Statement .cmpE :=
  of_encode (n := 1) rfl rfl rfl (by decide)

theorem cmpH : Statement .cmpH :=
  of_encode (n := 1) rfl rfl rfl (by decide)

theorem cmpL : Statement .cmpL :=
  of_encode (n := 1) rfl rfl rfl (by decide)

theorem cmpM : Statement .cmpM :=
  of_encode (n := 1) rfl rfl rfl (by decide)

theorem cmpA : Statement .cmpA :=
  of_encode (n := 1) rfl rfl rfl (by decide)

theorem adi (v : Byte) : Statement (.adi v) :=
  of_encode (n := 2) rfl rfl rfl (by decide)

theorem aci (v : Byte) : Statement (.aci v) :=
  of_encode (n := 2) rfl rfl rfl (by decide)

theorem sui (v : Byte) : Statement (.sui v) :=
  of_encode (n := 2) rfl rfl rfl (by decide)

theorem sbi (v : Byte) : Statement (.sbi v) :=
  of_encode (n := 2) rfl rfl rfl (by decide)

theorem ani (v : Byte) : Statement (.ani v) :=
  of_encode (n := 2) rfl rfl rfl (by decide)

theorem xri (v : Byte) : Statement (.xri v) :=
  of_encode (n := 2) rfl rfl rfl (by decide)

theorem ori (v : Byte) : Statement (.ori v) :=
  of_encode (n := 2) rfl rfl rfl (by decide)

theorem cpi (v : Byte) : Statement (.cpi v) :=
  of_encode (n := 2) rfl rfl rfl (by decide)

theorem inrB : Statement .inrB :=
  of_encode (n := 1) rfl rfl rfl (by decide)

theorem inrC : Statement .inrC :=
  of_encode (n := 1) rfl rfl rfl (by decide)

theorem inrD : Statement .inrD :=
  of_encode (n := 1) rfl rfl rfl (by decide)

theorem inrE : Statement .inrE :=
  of_encode (n := 1) rfl rfl rfl (by decide)

theorem inrH : Statement .inrH :=
  of_encode (n := 1) rfl rfl rfl (by decide)

theorem inrL : Statement .inrL :=
  of_encode (n := 1) rfl rfl rfl (by decide)

theorem inrM : Statement .inrM :=
  of_encode (n := 1) rfl rfl rfl (by decide)

theorem inrA : Statement .inrA :=
  of_encode (n := 1) rfl rfl rfl (by decide)

theorem dcrB : Statement .dcrB :=
  of_encode (n := 1) rfl rfl rfl (by decide)

theorem dcrC : Statement .dcrC :=
  of_encode (n := 1) rfl rfl rfl (by decide)

theorem dcrD : Statement .dcrD :=
  of_encode (n := 1) rfl rfl rfl (by decide)

theorem dcrE : Statement .dcrE :=
  of_encode (n := 1) rfl rfl rfl (by decide)

theorem dcrH : Statement .dcrH :=
  of_encode (n := 1) rfl rfl rfl (by decide)

theorem dcrL : Statement .dcrL :=
  of_encode (n := 1) rfl rfl rfl (by decide)

theorem dcrM : Statement .dcrM :=
  of_encode (n := 1) rfl rfl rfl (by decide)

theorem dcrA : Statement .dcrA :=
  of_encode (n := 1) rfl rfl rfl (by decide)

theorem rlc : Statement .rlc :=
  of_encode (n := 1) rfl rfl rfl (by decide)

theorem rrc : Statement .rrc :=
  of_encode (n := 1) rfl rfl rfl (by decide)

theorem ral : Statement .ral :=
  of_encode (n := 1) rfl rfl rfl (by decide)

theorem rar : Statement .rar :=
  of_encode (n := 1) rfl rfl rfl (by decide)

theorem lxiB (v : Word) : Statement (.lxiB v) :=
  of_encode (n := 3) rfl rfl rfl (by decide)

theorem lxiD (v : Word) : Statement (.lxiD v) :=
  of_encode (n := 3) rfl rfl rfl (by decide)

theorem lxiH (v : Word) : Statement (.lxiH v) :=
  of_encode (n := 3) rfl rfl rfl (by decide)

theorem lxiSp (v : Word) : Statement (.lxiSp v) :=
  of_encode (n := 3) rfl rfl rfl (by decide)

theorem ldaxB : Statement .ldaxB :=
  of_encode (n := 1) rfl rfl rfl (by decide)

theorem ldaxD : Statement .ldaxD :=
  of_encode (n := 1) rfl rfl rfl (by decide)

theorem staxB : Statement .staxB :=
  of_encode (n := 1) rfl rfl rfl (by decide)

theorem staxD : Statement .staxD :=
  of_encode (n := 1) rfl rfl rfl (by decide)

theorem inxB : Statement .inxB :=
  of_encode (n := 1) rfl rfl rfl (by decide)

theorem inxD : Statement .inxD :=
  of_encode (n := 1) rfl rfl rfl (by decide)

theorem inxH : Statement .inxH :=
  of_encode (n := 1) rfl rfl rfl (by decide)

theorem inxSp : Statement .inxSp :=
  of_encode (n := 1) rfl rfl rfl (by decide)

theorem dcxB : Statement .dcxB :=
  of_encode (n := 1) rfl rfl rfl (by decide)

theorem dcxD : Statement .dcxD :=
  of_encode (n := 1) rfl rfl rfl (by decide)

theorem dcxH : Statement .dcxH :=
  of_encode (n := 1) rfl rfl rfl (by decide)

theorem dcxSp : Statement .dcxSp :=
  of_encode (n := 1) rfl rfl rfl (by decide)

theorem pushB : Statement .pushB :=
  of_encode (n := 1) rfl rfl rfl (by decide)

theorem pushD : Statement .pushD :=
  of_encode (n := 1) rfl rfl rfl (by decide)

theorem pushH : Statement .pushH :=
  of_encode (n := 1) rfl rfl rfl (by decide)

theorem pushPsw : Statement .pushPsw :=
  of_encode (n := 1) rfl rfl rfl (by decide)

theorem popB : Statement .popB :=
  of_encode (n := 1) rfl rfl rfl (by decide)

theorem popD : Statement .popD :=
  of_encode (n := 1) rfl rfl rfl (by decide)

theorem popH : Statement .popH :=
  of_encode (n := 1) rfl rfl rfl (by decide)

theorem popPsw : Statement .popPsw :=
  of_encode (n := 1) rfl rfl rfl (by decide)

theorem jmp (a : Word) : Statement (.jmp a) :=
  of_encode (n := 3) rfl rfl rfl (by decide)

theorem jnz (a : Word) : Statement (.jnz a) :=
  of_encode (n := 3) rfl rfl rfl (by decide)

theorem jz (a : Word) : Statement (.jz a) :=
  of_encode (n := 3) rfl rfl rfl (by decide)

theorem jnc (a : Word) : Statement (.jnc a) :=
  of_encode (n := 3) rfl rfl rfl (by decide)

theorem jc (a : Word) : Statement (.jc a) :=
  of_encode (n := 3) rfl rfl rfl (by decide)

theorem jpo (a : Word) : Statement (.jpo a) :=
  of_unwired (n := 3) rfl rfl rfl (by decide)

theorem jpe (a : Word) : Statement (.jpe a) :=
  of_unwired (n := 3) rfl rfl rfl (by decide)

theorem jp (a : Word) : Statement (.jp a) :=
  of_unwired (n := 3) rfl rfl rfl (by decide)

theorem jm (a : Word) : Statement (.jm a) :=
  of_unwired (n := 3) rfl rfl rfl (by decide)

theorem call (a : Word) : Statement (.call a) :=
  of_encode (n := 3) rfl rfl rfl (by decide)

theorem cnz (a : Word) : Statement (.cnz a) :=
  of_encode (n := 3) rfl rfl rfl (by decide)

theorem cz (a : Word) : Statement (.cz a) :=
  of_encode (n := 3) rfl rfl rfl (by decide)

theorem cnc (a : Word) : Statement (.cnc a) :=
  of_encode (n := 3) rfl rfl rfl (by decide)

theorem cc (a : Word) : Statement (.cc a) :=
  of_encode (n := 3) rfl rfl rfl (by decide)

theorem cpo (a : Word) : Statement (.cpo a) :=
  of_unwired (n := 3) rfl rfl rfl (by decide)

theorem cpe (a : Word) : Statement (.cpe a) :=
  of_unwired (n := 3) rfl rfl rfl (by decide)

theorem cp (a : Word) : Statement (.cp a) :=
  of_unwired (n := 3) rfl rfl rfl (by decide)

theorem cm (a : Word) : Statement (.cm a) :=
  of_unwired (n := 3) rfl rfl rfl (by decide)

theorem ret : Statement .ret :=
  of_encode (n := 1) rfl rfl rfl (by decide)

theorem rnz : Statement .rnz :=
  of_encode (n := 1) rfl rfl rfl (by decide)

theorem rz : Statement .rz :=
  of_encode (n := 1) rfl rfl rfl (by decide)

theorem rnc : Statement .rnc :=
  of_encode (n := 1) rfl rfl rfl (by decide)

theorem rc : Statement .rc :=
  of_encode (n := 1) rfl rfl rfl (by decide)

theorem rpo : Statement .rpo :=
  of_unwired (n := 1) rfl rfl rfl (by decide)

theorem rpe : Statement .rpe :=
  of_unwired (n := 1) rfl rfl rfl (by decide)

theorem rp : Statement .rp :=
  of_unwired (n := 1) rfl rfl rfl (by decide)

theorem rm : Statement .rm :=
  of_unwired (n := 1) rfl rfl rfl (by decide)

theorem nop : Statement .nop :=
  of_encode (n := 1) rfl rfl rfl (by decide)

theorem hlt : Statement .hlt :=
  of_encode (n := 1) rfl rfl rfl (by decide)

theorem lda (a : Word) : Statement (.lda a) :=
  of_encode (n := 3) rfl rfl rfl (by decide)

theorem sta (a : Word) : Statement (.sta a) :=
  of_encode (n := 3) rfl rfl rfl (by decide)

theorem lhld (a : Word) : Statement (.lhld a) :=
  of_encode (n := 3) rfl rfl rfl (by decide)

theorem shld (a : Word) : Statement (.shld a) :=
  of_encode (n := 3) rfl rfl rfl (by decide)

theorem xchg : Statement .xchg :=
  of_encode (n := 1) rfl rfl rfl (by decide)

/-- Every undefined opcode byte is a whole instruction of one byte. -/
theorem opLength_of_isUndefinedOpcode :
    ∀ mode op, isUndefinedOpcode mode op = true → opLength mode op = 1 := by
  intro mode op h
  cases mode
  · revert op
    decide
  · revert op
    decide

theorem undefined (op : Byte) : Statement (.undefined op) := by
  intro mode h
  exact ⟨opLength_of_isUndefinedOpcode mode op h, Nat.le_refl 1, by simp [encode]⟩

end Sys2Proof.Laws.OpcodeFixesLength
end

