-- ==== Sys2Proof/Tests/Slice0.lean ====
section
/-! SUPPORT. Tests of one step each, decode tests of every opcode byte, and a witness for the hypotheses of every statement.
Expected results are those of spec/95_test_vectors.md, the map of 30_encoding.md R94 with spec/opcode_table.json, and the rules
named; none was computed by this model. -/

namespace Sys2Proof.Tests

open Sys2Proof Sys2Proof.Machine

/-- `s` with bytes stored from `pc` on. -/
def holding (bytes : List Byte) (s : State) : State := s.storeBytes s.pc bytes

/-- The step answers a next state, and `p` holds of it. -/
def stepsTo (s : State) (p : State → Bool) : Bool :=
  match step s with
  | .next t => p t
  | .fault _ => false
  | .refused _ => false

/-- In the default mode every byte list decodes to its instruction, with no byte left over. -/
def decodesAll (l : List (List Byte × Instr)) : Bool :=
  l.all (fun x => match decode .boundNeverTransfer x.1 with
    | .ok (i, rest) => i == x.2 && rest.isEmpty
    | .error _ => false)

/-! ## Well-formedness: an ill-formed term for each check -/

/-- R86, R95: 0x76 is bound, so it is no undefined opcode. -/
theorem test_undefined_carrying_bound_byte_refused : WellFormed .boundNeverTransfer (.undefined 0x76) = false := by decide

/-- R95: 0x08 is undefined. -/
theorem test_undefined_carrying_undefined_byte_accepted : WellFormed .unbound (.undefined 0x08) = true := by decide

/-- R202: 0xE2 is undefined in mode Unbound only. -/
theorem test_unwired_byte_is_undefined_in_unbound_only :
    WellFormed .boundNeverTransfer (.undefined 0xE2) = false ∧ WellFormed .unbound (.undefined 0xE2) = true := by decide

/-- R202: in mode Unbound the twelve unwired conditional instructions do not exist; in the default mode they do. -/
theorem test_unwired_conditionals_refused_in_unbound :
    (∀ k ∈ [Cond.po, .pe, .p, .m], WellFormed .unbound (mkRcc k) = false ∧ WellFormed .unbound (mkJcc k 0x0810) = false ∧
      WellFormed .unbound (mkCcc k 0x0810) = false ∧ WellFormed .boundNeverTransfer (mkRcc k) = true ∧
      WellFormed .boundNeverTransfer (mkJcc k 0x0810) = true ∧ WellFormed .boundNeverTransfer (mkCcc k 0x0810) = true) := by
  decide

/-! ## Decoding: every opcode byte, row by row of the map of 30_encoding.md R94 -/

theorem test_decode_row_0 : decodesAll [
    ([0x00], .nop), ([0x01, 0x10, 0xE1], .lxiB 0xE110), ([0x02], .staxB), ([0x03], .inxB),
    ([0x04], .inrB), ([0x05], .dcrB), ([0x06, 0xA6], .mviB 0xA6), ([0x07], .rlc),
    ([0x08], .undefined 0x08), ([0x09], .undefined 0x09), ([0x0A], .ldaxB), ([0x0B], .dcxB),
    ([0x0C], .inrC), ([0x0D], .dcrC), ([0x0E, 0xAE], .mviC 0xAE), ([0x0F], .rrc)] = true := by decide

theorem test_decode_row_1 : decodesAll [
    ([0x10], .undefined 0x10), ([0x11, 0x11, 0xE1], .lxiD 0xE111), ([0x12], .staxD), ([0x13], .inxD),
    ([0x14], .inrD), ([0x15], .dcrD), ([0x16, 0xA6], .mviD 0xA6), ([0x17], .ral),
    ([0x18], .undefined 0x18), ([0x19], .undefined 0x19), ([0x1A], .ldaxD), ([0x1B], .dcxD),
    ([0x1C], .inrE), ([0x1D], .dcrE), ([0x1E, 0xAE], .mviE 0xAE), ([0x1F], .rar)] = true := by decide

theorem test_decode_row_2 : decodesAll [
    ([0x20], .undefined 0x20), ([0x21, 0x12, 0xE1], .lxiH 0xE112), ([0x22, 0x12, 0xE2], .shld 0xE212), ([0x23], .inxH),
    ([0x24], .inrH), ([0x25], .dcrH), ([0x26, 0xA6], .mviH 0xA6), ([0x27], .undefined 0x27),
    ([0x28], .undefined 0x28), ([0x29], .undefined 0x29), ([0x2A, 0x12, 0xEA], .lhld 0xEA12), ([0x2B], .dcxH),
    ([0x2C], .inrL), ([0x2D], .dcrL), ([0x2E, 0xAE], .mviL 0xAE), ([0x2F], .undefined 0x2F)] = true := by decide

theorem test_decode_row_3 : decodesAll [
    ([0x30], .undefined 0x30), ([0x31, 0x13, 0xE1], .lxiSp 0xE113), ([0x32, 0x13, 0xE2], .sta 0xE213), ([0x33], .inxSp),
    ([0x34], .inrM), ([0x35], .dcrM), ([0x36, 0xA6], .mviM 0xA6), ([0x37], .undefined 0x37),
    ([0x38], .undefined 0x38), ([0x39], .undefined 0x39), ([0x3A, 0x13, 0xEA], .lda 0xEA13), ([0x3B], .dcxSp),
    ([0x3C], .inrA), ([0x3D], .dcrA), ([0x3E, 0xAE], .mviA 0xAE), ([0x3F], .undefined 0x3F)] = true := by decide

theorem test_decode_row_4 : decodesAll [
    ([0x40], .movBB), ([0x41], .movBC), ([0x42], .movBD), ([0x43], .movBE),
    ([0x44], .movBH), ([0x45], .movBL), ([0x46], .movBM), ([0x47], .movBA),
    ([0x48], .movCB), ([0x49], .movCC), ([0x4A], .movCD), ([0x4B], .movCE),
    ([0x4C], .movCH), ([0x4D], .movCL), ([0x4E], .movCM), ([0x4F], .movCA)] = true := by decide

theorem test_decode_row_5 : decodesAll [
    ([0x50], .movDB), ([0x51], .movDC), ([0x52], .movDD), ([0x53], .movDE),
    ([0x54], .movDH), ([0x55], .movDL), ([0x56], .movDM), ([0x57], .movDA),
    ([0x58], .movEB), ([0x59], .movEC), ([0x5A], .movED), ([0x5B], .movEE),
    ([0x5C], .movEH), ([0x5D], .movEL), ([0x5E], .movEM), ([0x5F], .movEA)] = true := by decide

theorem test_decode_row_6 : decodesAll [
    ([0x60], .movHB), ([0x61], .movHC), ([0x62], .movHD), ([0x63], .movHE),
    ([0x64], .movHH), ([0x65], .movHL), ([0x66], .movHM), ([0x67], .movHA),
    ([0x68], .movLB), ([0x69], .movLC), ([0x6A], .movLD), ([0x6B], .movLE),
    ([0x6C], .movLH), ([0x6D], .movLL), ([0x6E], .movLM), ([0x6F], .movLA)] = true := by decide

theorem test_decode_row_7 : decodesAll [
    ([0x70], .movMB), ([0x71], .movMC), ([0x72], .movMD), ([0x73], .movME),
    ([0x74], .movMH), ([0x75], .movML), ([0x76], .hlt), ([0x77], .movMA),
    ([0x78], .movAB), ([0x79], .movAC), ([0x7A], .movAD), ([0x7B], .movAE),
    ([0x7C], .movAH), ([0x7D], .movAL), ([0x7E], .movAM), ([0x7F], .movAA)] = true := by decide

theorem test_decode_row_8 : decodesAll [
    ([0x80], .addB), ([0x81], .addC), ([0x82], .addD), ([0x83], .addE),
    ([0x84], .addH), ([0x85], .addL), ([0x86], .addM), ([0x87], .addA),
    ([0x88], .adcB), ([0x89], .adcC), ([0x8A], .adcD), ([0x8B], .adcE),
    ([0x8C], .adcH), ([0x8D], .adcL), ([0x8E], .adcM), ([0x8F], .adcA)] = true := by decide

theorem test_decode_row_9 : decodesAll [
    ([0x90], .subB), ([0x91], .subC), ([0x92], .subD), ([0x93], .subE),
    ([0x94], .subH), ([0x95], .subL), ([0x96], .subM), ([0x97], .subA),
    ([0x98], .sbbB), ([0x99], .sbbC), ([0x9A], .sbbD), ([0x9B], .sbbE),
    ([0x9C], .sbbH), ([0x9D], .sbbL), ([0x9E], .sbbM), ([0x9F], .sbbA)] = true := by decide

theorem test_decode_row_A : decodesAll [
    ([0xA0], .anaB), ([0xA1], .anaC), ([0xA2], .anaD), ([0xA3], .anaE),
    ([0xA4], .anaH), ([0xA5], .anaL), ([0xA6], .anaM), ([0xA7], .anaA),
    ([0xA8], .xraB), ([0xA9], .xraC), ([0xAA], .xraD), ([0xAB], .xraE),
    ([0xAC], .xraH), ([0xAD], .xraL), ([0xAE], .xraM), ([0xAF], .xraA)] = true := by decide

theorem test_decode_row_B : decodesAll [
    ([0xB0], .oraB), ([0xB1], .oraC), ([0xB2], .oraD), ([0xB3], .oraE),
    ([0xB4], .oraH), ([0xB5], .oraL), ([0xB6], .oraM), ([0xB7], .oraA),
    ([0xB8], .cmpB), ([0xB9], .cmpC), ([0xBA], .cmpD), ([0xBB], .cmpE),
    ([0xBC], .cmpH), ([0xBD], .cmpL), ([0xBE], .cmpM), ([0xBF], .cmpA)] = true := by decide

theorem test_decode_row_C : decodesAll [
    ([0xC0], .rnz), ([0xC1], .popB), ([0xC2, 0x1C, 0xE2], .jnz 0xE21C), ([0xC3, 0x1C, 0xE3], .jmp 0xE31C),
    ([0xC4, 0x1C, 0xE4], .cnz 0xE41C), ([0xC5], .pushB), ([0xC6, 0xA6], .adi 0xA6), ([0xC7], .undefined 0xC7),
    ([0xC8], .rz), ([0xC9], .ret), ([0xCA, 0x1C, 0xEA], .jz 0xEA1C), ([0xCB], .undefined 0xCB),
    ([0xCC, 0x1C, 0xEC], .cz 0xEC1C), ([0xCD, 0x1C, 0xED], .call 0xED1C), ([0xCE, 0xAE], .aci 0xAE), ([0xCF], .undefined 0xCF)] = true := by decide

theorem test_decode_row_D : decodesAll [
    ([0xD0], .rnc), ([0xD1], .popD), ([0xD2, 0x1D, 0xE2], .jnc 0xE21D), ([0xD3], .undefined 0xD3),
    ([0xD4, 0x1D, 0xE4], .cnc 0xE41D), ([0xD5], .pushD), ([0xD6, 0xA6], .sui 0xA6), ([0xD7], .undefined 0xD7),
    ([0xD8], .rc), ([0xD9], .undefined 0xD9), ([0xDA, 0x1D, 0xEA], .jc 0xEA1D), ([0xDB], .undefined 0xDB),
    ([0xDC, 0x1D, 0xEC], .cc 0xEC1D), ([0xDD], .undefined 0xDD), ([0xDE, 0xAE], .sbi 0xAE), ([0xDF], .undefined 0xDF)] = true := by decide

theorem test_decode_row_E : decodesAll [
    ([0xE0], .rpo), ([0xE1], .popH), ([0xE2, 0x1E, 0xE2], .jpo 0xE21E), ([0xE3], .undefined 0xE3),
    ([0xE4, 0x1E, 0xE4], .cpo 0xE41E), ([0xE5], .pushH), ([0xE6, 0xA6], .ani 0xA6), ([0xE7], .undefined 0xE7),
    ([0xE8], .rpe), ([0xE9], .undefined 0xE9), ([0xEA, 0x1E, 0xEA], .jpe 0xEA1E), ([0xEB], .xchg),
    ([0xEC, 0x1E, 0xEC], .cpe 0xEC1E), ([0xED], .undefined 0xED), ([0xEE, 0xAE], .xri 0xAE), ([0xEF], .undefined 0xEF)] = true := by decide

theorem test_decode_row_F : decodesAll [
    ([0xF0], .rp), ([0xF1], .popPsw), ([0xF2, 0x1F, 0xE2], .jp 0xE21F), ([0xF3], .undefined 0xF3),
    ([0xF4, 0x1F, 0xE4], .cp 0xE41F), ([0xF5], .pushPsw), ([0xF6, 0xA6], .ori 0xA6), ([0xF7], .undefined 0xF7),
    ([0xF8], .rm), ([0xF9], .undefined 0xF9), ([0xFA, 0x1F, 0xEA], .jm 0xEA1F), ([0xFB], .undefined 0xFB),
    ([0xFC, 0x1F, 0xEC], .cm 0xEC1F), ([0xFD], .undefined 0xFD), ([0xFE, 0xAE], .cpi 0xAE), ([0xFF], .undefined 0xFF)] = true := by decide

/-- R80: a list that ends inside an instruction is rejected by name, and so is the empty list. -/
theorem test_decode_truncated : decode .boundNeverTransfer [0x3A, 0x00] = .error (.truncated 0x3A) ∧
    decode .boundNeverTransfer [0x06] = .error (.truncated 0x06) ∧ decode .boundNeverTransfer [] = .error .noByte :=
  ⟨rfl, rfl, rfl⟩

/-- R202: in mode Unbound JM's opcode takes one byte and names no instruction. -/
theorem test_decode_unwired_unbound : decode .unbound [0xFA, 0x10, 0x08] = .ok (.undefined 0xFA, [0x10, 0x08]) := rfl

/-- spec/opcode_table.json: bit 0 is the low bit of the first byte; an operand byte the table gives no bits is 0. -/
theorem test_decodeTableWord : decodeTableWord 24 0x12342A = some (.lhld 0x1234) ∧ decodeTableWord 8 0x3E = some (.mviA 0x00) ∧
    decodeTableWord 8 0xFF = some (.undefined 0xFF) := by decide

/-- The word placed is the instruction that the very next step runs: LHLD 0x0801 after reset loads HL with 0x0801. -/
theorem test_withFetchWord : stepsTo (State.reset.withFetchWord 24 0x08012A)
    (fun t => t.h == 0x08 && t.l == 0x01 && t.pc == 0x0803) = true := by decide

/-! ## Data movement (2.1) -/

/-- V-MOV-01: MOV A,B. -/
theorem test_V_MOV_01 : stepsTo (holding [0x78] { State.reset with b := 0x12 })
    (fun t => t.a == 0x12 && t.f == 0x00 && t.pc == 0x0801) = true := by decide

/-- V-MOV-02: MOV B,B (same register). -/
theorem test_V_MOV_02 : stepsTo (holding [0x40] { State.reset with b := 0x5A, f := 0xD5 })
    (fun t => t.f == 0xD5 && t.pc == 0x0801) = true := by decide

/-- V-MOV-03: MOV E,A. -/
theorem test_V_MOV_03 : stepsTo (holding [0x5F] { State.reset with a := 0xFF })
    (fun t => t.e == 0xFF && t.f == 0x00 && t.pc == 0x0801) = true := by decide

/-- V-MOV-04: MOV A,M. -/
theorem test_V_MOV_04 : stepsTo (holding [0x7E] (({ State.reset with h := 0x20, l := 0x00 }).write8 0x2000 0x41))
    (fun t => t.a == 0x41 && t.f == 0x00 && t.pc == 0x0801) = true := by decide

/-- V-MOV-05: MOV H,M (reads with old H:L). -/
theorem test_V_MOV_05 : stepsTo (holding [0x66] (({ State.reset with h := 0x20, l := 0x10 }).write8 0x2010 0x30))
    (fun t => t.h == 0x30 && t.f == 0x00 && t.pc == 0x0801) = true := by decide

/-- V-MOV-06: MOV M,A. -/
theorem test_V_MOV_06 : stepsTo (holding [0x77] { State.reset with h := 0x30, l := 0x00, a := 0x48 })
    (fun t => t.f == 0x00 && t.pc == 0x0801 && t.read8 0x3000 == 0x48) = true := by decide

/-- V-MOV-07: MOV M,H (stores H at H:L). -/
theorem test_V_MOV_07 : stepsTo (holding [0x74] { State.reset with h := 0x21, l := 0x05 })
    (fun t => t.f == 0x00 && t.pc == 0x0801 && t.read8 0x2105 == 0x21) = true := by decide

/-- V-MOV-08: MOV A,M at H:L = 0xFFFF. -/
theorem test_V_MOV_08 : stepsTo (holding [0x7E] (({ State.reset with h := 0xFF, l := 0xFF }).write8 0xFFFF 0x99))
    (fun t => t.a == 0x99 && t.f == 0x00 && t.pc == 0x0801) = true := by decide

/-- V-MOV-10: MVI A,0x05 (W9). -/
theorem test_V_MOV_10 : stepsTo (holding [0x3E, 0x05] State.reset)
    (fun t => t.a == 0x05 && t.f == 0x00 && t.pc == 0x0802) = true := by decide

/-- V-MOV-11: MVI M,0x7F. -/
theorem test_V_MOV_11 : stepsTo (holding [0x36, 0x7F] { State.reset with h := 0x20, l := 0x00 })
    (fun t => t.f == 0x00 && t.pc == 0x0802 && t.read8 0x2000 == 0x7F) = true := by decide

/-- V-MOV-12: MVI A at 0xFFFE, operand at 0xFFFF (STACK_BOUNDARY=0xFFFF). -/
theorem test_V_MOV_12 : stepsTo (holding [0x3E, 0xAB] { State.reset with cfg := { Config.standard with stackBoundary := 0xFFFF }, pc := 0xFFFE })
    (fun t => t.a == 0xAB && t.f == 0x00 && t.pc == 0x0000) = true := by decide

/-! ## The ALU, INR, DCR and the rotates (2.2) -/

/-- V-ALU-01: ADD B, carry and zero. -/
theorem test_V_ALU_01 : stepsTo (holding [0x80] { State.reset with a := 0x3A, b := 0xC6 })
    (fun t => t.a == 0x00 && t.f == 0x45 && t.pc == 0x0801) = true := by decide

/-- V-ALU-03: ADD A (A=0x80). -/
theorem test_V_ALU_03 : stepsTo (holding [0x87] { State.reset with a := 0x80 })
    (fun t => t.a == 0x00 && t.f == 0x45 && t.pc == 0x0801) = true := by decide

/-- V-ALU-04: ADD M. -/
theorem test_V_ALU_04 : stepsTo (holding [0x86] (({ State.reset with a := 0x01, h := 0x20, l := 0x00 }).write8 0x2000 0x7F))
    (fun t => t.a == 0x80 && t.f == 0x80 && t.pc == 0x0801) = true := by decide

/-- V-ALU-05: ADC B with CY=1, 0xFF+0x00+1. -/
theorem test_V_ALU_05 : stepsTo (holding [0x88] { State.reset with a := 0xFF, b := 0x00, f := 0x01 })
    (fun t => t.a == 0x00 && t.f == 0x45 && t.pc == 0x0801) = true := by decide

/-- V-ALU-06: ADC B with CY=0. -/
theorem test_V_ALU_06 : stepsTo (holding [0x88] { State.reset with a := 0x10, b := 0x20 })
    (fun t => t.a == 0x30 && t.f == 0x04 && t.pc == 0x0801) = true := by decide

/-- V-ALU-07: ADC A with CY=1 (A=0x80). -/
theorem test_V_ALU_07 : stepsTo (holding [0x8F] { State.reset with a := 0x80, f := 0x01 })
    (fun t => t.a == 0x01 && t.f == 0x01 && t.pc == 0x0801) = true := by decide

/-- V-ALU-08: SUB B, borrow. -/
theorem test_V_ALU_08 : stepsTo (holding [0x90] { State.reset with a := 0x05, b := 0x0A })
    (fun t => t.a == 0xFB && t.f == 0x81 && t.pc == 0x0801) = true := by decide

/-- V-ALU-09: SUB A. -/
theorem test_V_ALU_09 : stepsTo (holding [0x97] { State.reset with a := 0x77, f := 0x01 })
    (fun t => t.a == 0x00 && t.f == 0x44 && t.pc == 0x0801) = true := by decide

/-- V-ALU-10: SBB B with CY=1, 0x00-0x00-1. -/
theorem test_V_ALU_10 : stepsTo (holding [0x98] { State.reset with a := 0x00, b := 0x00, f := 0x01 })
    (fun t => t.a == 0xFF && t.f == 0x85 && t.pc == 0x0801) = true := by decide

/-- V-ALU-11: SBB A with CY=1. -/
theorem test_V_ALU_11 : stepsTo (holding [0x9F] { State.reset with a := 0x42, f := 0x01 })
    (fun t => t.a == 0xFF && t.f == 0x85 && t.pc == 0x0801) = true := by decide

/-- V-ALU-12: SBB B with CY=0, no borrow. -/
theorem test_V_ALU_12 : stepsTo (holding [0x98] { State.reset with a := 0x10, b := 0x01 })
    (fun t => t.a == 0x0F && t.f == 0x04 && t.pc == 0x0801) = true := by decide

/-- V-ALU-13: ANA B clears CY. -/
theorem test_V_ALU_13 : stepsTo (holding [0xA0] { State.reset with a := 0xF0, b := 0x3C, f := 0x01 })
    (fun t => t.a == 0x30 && t.f == 0x04 && t.pc == 0x0801) = true := by decide

/-- V-ALU-14: XRA A. -/
theorem test_V_ALU_14 : stepsTo (holding [0xAF] { State.reset with a := 0x5A, f := 0x01 })
    (fun t => t.a == 0x00 && t.f == 0x44 && t.pc == 0x0801) = true := by decide

/-- V-ALU-15: ORA B, both zero. -/
theorem test_V_ALU_15 : stepsTo (holding [0xB0] { State.reset with f := 0x01 })
    (fun t => t.f == 0x44 && t.pc == 0x0801) = true := by decide

/-- V-ALU-17: CMP B equal. -/
theorem test_V_ALU_17 : stepsTo (holding [0xB8] { State.reset with a := 0x42, b := 0x42 })
    (fun t => t.f == 0x44 && t.pc == 0x0801) = true := by decide

/-- V-ALU-18: CMP B, A < B. -/
theorem test_V_ALU_18 : stepsTo (holding [0xB8] { State.reset with a := 0x05, b := 0x0A })
    (fun t => t.f == 0x81 && t.pc == 0x0801) = true := by decide

/-- V-ALU-19: CMP M, A > [HL]. -/
theorem test_V_ALU_19 : stepsTo (holding [0xBE] (({ State.reset with a := 0x0A, h := 0x20, l := 0x00 }).write8 0x2000 0x05))
    (fun t => t.f == 0x04 && t.pc == 0x0801) = true := by decide

/-- V-ALU-20: ADI 0x01 on 0xFF. -/
theorem test_V_ALU_20 : stepsTo (holding [0xC6, 0x01] { State.reset with a := 0xFF })
    (fun t => t.a == 0x00 && t.f == 0x45 && t.pc == 0x0802) = true := by decide

/-- V-ALU-21: ACI 0x00 with CY=1. -/
theorem test_V_ALU_21 : stepsTo (holding [0xCE, 0x00] { State.reset with a := 0x7F, f := 0x01 })
    (fun t => t.a == 0x80 && t.f == 0x80 && t.pc == 0x0802) = true := by decide

/-- V-ALU-22: SUI 0x01 on 0x00. -/
theorem test_V_ALU_22 : stepsTo (holding [0xD6, 0x01] { State.reset with a := 0x00 })
    (fun t => t.a == 0xFF && t.f == 0x85 && t.pc == 0x0802) = true := by decide

/-- V-ALU-23: SBI 0x00 with CY=1 on 0x00. -/
theorem test_V_ALU_23 : stepsTo (holding [0xDE, 0x00] { State.reset with a := 0x00, f := 0x01 })
    (fun t => t.a == 0xFF && t.f == 0x85 && t.pc == 0x0802) = true := by decide

/-- V-ALU-24: ANI 0x0F. -/
theorem test_V_ALU_24 : stepsTo (holding [0xE6, 0x0F] { State.reset with a := 0x3C, f := 0x01 })
    (fun t => t.a == 0x0C && t.f == 0x04 && t.pc == 0x0802) = true := by decide

/-- V-ALU-25: XRI 0xFF. -/
theorem test_V_ALU_25 : stepsTo (holding [0xEE, 0xFF] { State.reset with a := 0x0F })
    (fun t => t.a == 0xF0 && t.f == 0x84 && t.pc == 0x0802) = true := by decide

/-- V-ALU-26: ORI 0x00 on 0x00. -/
theorem test_V_ALU_26 : stepsTo (holding [0xF6, 0x00] { State.reset with f := 0x01 })
    (fun t => t.f == 0x44 && t.pc == 0x0802) = true := by decide

/-- V-ALU-27: CPI 0x05 on 0x0A. -/
theorem test_V_ALU_27 : stepsTo (holding [0xFE, 0x05] { State.reset with a := 0x0A })
    (fun t => t.f == 0x04 && t.pc == 0x0802) = true := by decide

/-- V-ALU-28: CPI 0x00 on 0x00. -/
theorem test_V_ALU_28 : stepsTo (holding [0xFE, 0x00] State.reset)
    (fun t => t.f == 0x44 && t.pc == 0x0802) = true := by decide

/-- V-ALU-29: ADD keeps AC and unused bits (F=0x3A). -/
theorem test_V_ALU_29 : stepsTo (holding [0x80] { State.reset with a := 0x01, b := 0x02, f := 0x3A })
    (fun t => t.a == 0x03 && t.f == 0x3E && t.pc == 0x0801) = true := by decide

/-- V-ALU-30: INR A wraps 0xFF to 0x00, CY=1 kept. -/
theorem test_V_ALU_30 : stepsTo (holding [0x3C] { State.reset with a := 0xFF, f := 0x01 })
    (fun t => t.a == 0x00 && t.f == 0x45 && t.pc == 0x0801) = true := by decide

/-- V-ALU-31: INR A wraps 0xFF to 0x00, CY=0 kept. -/
theorem test_V_ALU_31 : stepsTo (holding [0x3C] { State.reset with a := 0xFF })
    (fun t => t.a == 0x00 && t.f == 0x44 && t.pc == 0x0801) = true := by decide

/-- V-ALU-32: INR M. -/
theorem test_V_ALU_32 : stepsTo (holding [0x34] (({ State.reset with h := 0x20, l := 0x00 }).write8 0x2000 0x7F))
    (fun t => t.f == 0x80 && t.pc == 0x0801 && t.read8 0x2000 == 0x80) = true := by decide

/-- V-ALU-33: DCR B wraps 0x00 to 0xFF, CY=0 kept. -/
theorem test_V_ALU_33 : stepsTo (holding [0x05] { State.reset with b := 0x00 })
    (fun t => t.b == 0xFF && t.f == 0x84 && t.pc == 0x0801) = true := by decide

/-- V-ALU-34: DCR C to zero, CY=1 kept. -/
theorem test_V_ALU_34 : stepsTo (holding [0x0D] { State.reset with c := 0x01, f := 0x01 })
    (fun t => t.c == 0x00 && t.f == 0x45 && t.pc == 0x0801) = true := by decide

/-- V-ALU-35: DCR M. -/
theorem test_V_ALU_35 : stepsTo (holding [0x35] (({ State.reset with h := 0x20, l := 0x00 }).write8 0x2000 0x00))
    (fun t => t.f == 0x84 && t.pc == 0x0801 && t.read8 0x2000 == 0xFF) = true := by decide

/-- V-ALU-36: RLC (A=0x81). -/
theorem test_V_ALU_36 : stepsTo (holding [0x07] { State.reset with a := 0x81 })
    (fun t => t.a == 0x03 && t.f == 0x01 && t.pc == 0x0801) = true := by decide

/-- V-ALU-37: RRC (A=0x81). -/
theorem test_V_ALU_37 : stepsTo (holding [0x0F] { State.reset with a := 0x81 })
    (fun t => t.a == 0xC0 && t.f == 0x01 && t.pc == 0x0801) = true := by decide

/-- V-ALU-38: RAL (A=0x81, CY=0). -/
theorem test_V_ALU_38 : stepsTo (holding [0x17] { State.reset with a := 0x81 })
    (fun t => t.a == 0x02 && t.f == 0x01 && t.pc == 0x0801) = true := by decide

/-- V-ALU-39: RAR (A=0x81, CY=1). -/
theorem test_V_ALU_39 : stepsTo (holding [0x1F] { State.reset with a := 0x81, f := 0x01 })
    (fun t => t.a == 0xC0 && t.f == 0x01 && t.pc == 0x0801) = true := by decide

/-- V-ALU-40: RAL (A=0x00, CY=1). -/
theorem test_V_ALU_40 : stepsTo (holding [0x17] { State.reset with a := 0x00, f := 0x01 })
    (fun t => t.a == 0x01 && t.f == 0x00 && t.pc == 0x0801) = true := by decide

/-- V-ALU-41: RLC keeps S, Z, P (F=0xC4). -/
theorem test_V_ALU_41 : stepsTo (holding [0x07] { State.reset with a := 0x80, f := 0xC4 })
    (fun t => t.a == 0x01 && t.f == 0xC5 && t.pc == 0x0801) = true := by decide

/-- V-ALU-42: RRC (A=0x00, CY=1) clears CY. -/
theorem test_V_ALU_42 : stepsTo (holding [0x0F] { State.reset with a := 0x00, f := 0x01 })
    (fun t => t.f == 0x00 && t.pc == 0x0801) = true := by decide

/-- V-ALU-43: ANA A (same register). -/
theorem test_V_ALU_43 : stepsTo (holding [0xA7] { State.reset with a := 0x81, f := 0x01 })
    (fun t => t.f == 0x84 && t.pc == 0x0801) = true := by decide

/-- V-ALU-44: CMP A (same register). -/
theorem test_V_ALU_44 : stepsTo (holding [0xBF] { State.reset with a := 0x81, f := 0x01 })
    (fun t => t.f == 0x44 && t.pc == 0x0801) = true := by decide

/-- V-ALU-45: ADD M, with M the byte at H:L = 0x0800 (its own opcode). -/
theorem test_V_ALU_45 : stepsTo (holding [0x86] { State.reset with h := 0x08, l := 0x00, a := 0x01 })
    (fun t => t.a == 0x87 && t.f == 0x84 && t.pc == 0x0801) = true := by decide

/-! ## Register pairs (2.3) -/

/-- V-PAIR-01: LXI B,0x1234. -/
theorem test_V_PAIR_01 : stepsTo (holding [0x01, 0x34, 0x12] State.reset)
    (fun t => t.b == 0x12 && t.c == 0x34 && t.f == 0x00 && t.pc == 0x0803) = true := by decide

/-- V-PAIR-02: LXI D,0xABCD. -/
theorem test_V_PAIR_02 : stepsTo (holding [0x11, 0xCD, 0xAB] State.reset)
    (fun t => t.d == 0xAB && t.e == 0xCD && t.f == 0x00 && t.pc == 0x0803) = true := by decide

/-- V-PAIR-03: LXI H,0x2000. -/
theorem test_V_PAIR_03 : stepsTo (holding [0x21, 0x00, 0x20] State.reset)
    (fun t => t.h == 0x20 && t.f == 0x00 && t.pc == 0x0803) = true := by decide

/-- V-PAIR-04: LXI SP,0xE000. -/
theorem test_V_PAIR_04 : stepsTo (holding [0x31, 0x00, 0xE0] State.reset)
    (fun t => t.f == 0x00 && t.pc == 0x0803 && t.sp == 0xE000) = true := by decide

/-- V-PAIR-05: LDAX B. -/
theorem test_V_PAIR_05 : stepsTo (holding [0x0A] (({ State.reset with b := 0x20, c := 0x01 }).write8 0x2001 0x5C))
    (fun t => t.a == 0x5C && t.f == 0x00 && t.pc == 0x0801) = true := by decide

/-- V-PAIR-06: LDAX D. -/
theorem test_V_PAIR_06 : stepsTo (holding [0x1A] (({ State.reset with d := 0x20, e := 0x00 }).write8 0x2000 0x41))
    (fun t => t.a == 0x41 && t.f == 0x00 && t.pc == 0x0801) = true := by decide

/-- V-PAIR-07: STAX B. -/
theorem test_V_PAIR_07 : stepsTo (holding [0x02] { State.reset with b := 0x30, c := 0x00, a := 0x48 })
    (fun t => t.f == 0x00 && t.pc == 0x0801 && t.read8 0x3000 == 0x48) = true := by decide

/-- V-PAIR-08: STAX D. -/
theorem test_V_PAIR_08 : stepsTo (holding [0x12] { State.reset with d := 0x30, e := 0x01, a := 0x49 })
    (fun t => t.f == 0x00 && t.pc == 0x0801 && t.read8 0x3001 == 0x49) = true := by decide

/-- V-PAIR-09: INX B, carry from C into B. -/
theorem test_V_PAIR_09 : stepsTo (holding [0x03] { State.reset with b := 0x00, c := 0xFF })
    (fun t => t.b == 0x01 && t.c == 0x00 && t.f == 0x00 && t.pc == 0x0801) = true := by decide

/-- V-PAIR-10: INX H wraps 0xFFFF, flags unchanged. -/
theorem test_V_PAIR_10 : stepsTo (holding [0x23] { State.reset with h := 0xFF, l := 0xFF, f := 0x00 })
    (fun t => t.h == 0x00 && t.l == 0x00 && t.f == 0x00 && t.pc == 0x0801) = true := by decide

/-- V-PAIR-11: INX SP wraps. -/
theorem test_V_PAIR_11 : stepsTo (holding [0x33] { State.reset with sp := 0xFFFF })
    (fun t => t.f == 0x00 && t.pc == 0x0801 && t.sp == 0x0000) = true := by decide

/-- V-PAIR-12: DCX B wraps 0x0000, flags unchanged. -/
theorem test_V_PAIR_12 : stepsTo (holding [0x0B] { State.reset with f := 0x40 })
    (fun t => t.b == 0xFF && t.c == 0xFF && t.f == 0x40 && t.pc == 0x0801) = true := by decide

/-- V-PAIR-13: DCX D, borrow from E. -/
theorem test_V_PAIR_13 : stepsTo (holding [0x1B] { State.reset with d := 0x01, e := 0x00 })
    (fun t => t.d == 0x00 && t.e == 0xFF && t.f == 0x00 && t.pc == 0x0801) = true := by decide

/-- V-PAIR-14: DCX SP. -/
theorem test_V_PAIR_14 : stepsTo (holding [0x3B] { State.reset with sp := 0x0000 })
    (fun t => t.f == 0x00 && t.pc == 0x0801 && t.sp == 0xFFFF) = true := by decide

/-- V-PAIR-15: PUSH B. -/
theorem test_V_PAIR_15 : stepsTo (holding [0xC5] { State.reset with b := 0x12, c := 0x34 })
    (fun t => t.f == 0x00 && t.pc == 0x0801 && t.sp == 0xFFFD && t.read8 0xFFFD == 0x34 && t.read8 0xFFFE == 0x12) = true := by decide

/-- V-PAIR-16: PUSH PSW (F=0xD7). -/
theorem test_V_PAIR_16 : stepsTo (holding [0xF5] { State.reset with a := 0x99, f := 0xD7 })
    (fun t => t.f == 0xD7 && t.pc == 0x0801 && t.sp == 0xFFFD && t.read8 0xFFFD == 0xD7 && t.read8 0xFFFE == 0x99) = true := by decide

/-- V-PAIR-17: PUSH H with sp=0x0001 (wrap). -/
theorem test_V_PAIR_17 : stepsTo (holding [0xE5] { State.reset with h := 0xAA, l := 0xBB, sp := 0x0001 })
    (fun t => t.f == 0x00 && t.pc == 0x0801 && t.sp == 0xFFFF && t.read8 0x0000 == 0xAA && t.read8 0xFFFF == 0xBB) = true := by decide

/-- V-PAIR-18: POP D. -/
theorem test_V_PAIR_18 : stepsTo (holding [0xD1] ((({ State.reset with sp := 0xFFFD }).write8 0xFFFD 0x34).write8 0xFFFE 0x12))
    (fun t => t.d == 0x12 && t.e == 0x34 && t.f == 0x00 && t.pc == 0x0801 && t.sp == 0xFFFF) = true := by decide

/-- V-PAIR-19: POP PSW. -/
theorem test_V_PAIR_19 : stepsTo (holding [0xF1] ((({ State.reset with sp := 0xFFFD }).write8 0xFFFD 0xD7).write8 0xFFFE 0x99))
    (fun t => t.a == 0x99 && t.f == 0xD7 && t.pc == 0x0801 && t.sp == 0xFFFF) = true := by decide

/-- V-PAIR-20: POP PSW of 0xFF sets unused bits. -/
theorem test_V_PAIR_20 : stepsTo (holding [0xF1] ((({ State.reset with sp := 0xFFFD }).write8 0xFFFD 0xFF).write8 0xFFFE 0x00))
    (fun t => t.f == 0xFF && t.pc == 0x0801 && t.sp == 0xFFFF) = true := by decide

/-- V-PAIR-21: POP H with sp=0xFFFF (wrap). -/
theorem test_V_PAIR_21 : stepsTo (holding [0xE1] ((({ State.reset with sp := 0xFFFF }).write8 0x0000 0x11).write8 0xFFFF 0x22))
    (fun t => t.h == 0x11 && t.l == 0x22 && t.f == 0x00 && t.pc == 0x0801 && t.sp == 0x0001) = true := by decide

/-! ## Control transfer (2.4) -/

/-- V-CTL-01: JMP 0x0810. -/
theorem test_V_CTL_01 : stepsTo (holding [0xC3, 0x10, 0x08] State.reset)
    (fun t => t.f == 0x00 && t.pc == 0x0810) = true := by decide

/-- V-CTL-02: JNZ taken (Z=0). -/
theorem test_V_CTL_02 : stepsTo (holding [0xC2, 0x10, 0x08] State.reset)
    (fun t => t.f == 0x00 && t.pc == 0x0810) = true := by decide

/-- V-CTL-03: JNZ not taken (Z=1). -/
theorem test_V_CTL_03 : stepsTo (holding [0xC2, 0x10, 0x08] { State.reset with f := 0x40 })
    (fun t => t.f == 0x40 && t.pc == 0x0803) = true := by decide

/-- V-CTL-04: JZ taken (Z=1). -/
theorem test_V_CTL_04 : stepsTo (holding [0xCA, 0x10, 0x08] { State.reset with f := 0x40 })
    (fun t => t.f == 0x40 && t.pc == 0x0810) = true := by decide

/-- V-CTL-05: JZ not taken (Z=0). -/
theorem test_V_CTL_05 : stepsTo (holding [0xCA, 0x10, 0x08] State.reset)
    (fun t => t.f == 0x00 && t.pc == 0x0803) = true := by decide

/-- V-CTL-06: JNC taken (CY=0). -/
theorem test_V_CTL_06 : stepsTo (holding [0xD2, 0x10, 0x08] State.reset)
    (fun t => t.f == 0x00 && t.pc == 0x0810) = true := by decide

/-- V-CTL-07: JNC not taken (CY=1). -/
theorem test_V_CTL_07 : stepsTo (holding [0xD2, 0x10, 0x08] { State.reset with f := 0x01 })
    (fun t => t.f == 0x01 && t.pc == 0x0803) = true := by decide

/-- V-CTL-08: JC taken (CY=1). -/
theorem test_V_CTL_08 : stepsTo (holding [0xDA, 0x10, 0x08] { State.reset with f := 0x01 })
    (fun t => t.f == 0x01 && t.pc == 0x0810) = true := by decide

/-- V-CTL-09: JC not taken (CY=0). -/
theorem test_V_CTL_09 : stepsTo (holding [0xDA, 0x10, 0x08] State.reset)
    (fun t => t.f == 0x00 && t.pc == 0x0803) = true := by decide

/-- V-CTL-10: JPO unwired, P=0. -/
theorem test_V_CTL_10 : stepsTo (holding [0xE2, 0x10, 0x08] { State.reset with f := 0x00 })
    (fun t => t.f == 0x00 && t.pc == 0x0803) = true := by decide

/-- V-CTL-11: JPE unwired, P=1. -/
theorem test_V_CTL_11 : stepsTo (holding [0xEA, 0x10, 0x08] { State.reset with f := 0x04 })
    (fun t => t.f == 0x04 && t.pc == 0x0803) = true := by decide

/-- V-CTL-12: JP unwired, S=0. -/
theorem test_V_CTL_12 : stepsTo (holding [0xF2, 0x10, 0x08] { State.reset with f := 0x00 })
    (fun t => t.f == 0x00 && t.pc == 0x0803) = true := by decide

/-- V-CTL-13: JM unwired, S=1. -/
theorem test_V_CTL_13 : stepsTo (holding [0xFA, 0x10, 0x08] { State.reset with f := 0x80 })
    (fun t => t.f == 0x80 && t.pc == 0x0803) = true := by decide

/-- V-CTL-14: JM with UNWIRED_CC_MODE=Unbound. -/
theorem test_V_CTL_14 : stepsTo (holding [0xFA, 0x10, 0x08] { State.reset with cfg := { Config.standard with unwiredCcMode := .unbound }, f := 0x80 })
    (fun t => t.f == 0x80 && t.pc == 0x0801 && t.reports == [⟨0x0800, 0xFA⟩]) = true := by decide

/-- V-CTL-16: CALL 0x0900. -/
theorem test_V_CTL_16 : stepsTo (holding [0xCD, 0x00, 0x09] State.reset)
    (fun t => t.f == 0x00 && t.pc == 0x0900 && t.sp == 0xFFFD && t.read8 0xFFFD == 0x03 && t.read8 0xFFFE == 0x08) = true := by decide

/-- V-CTL-17: CALL with sp=0x0001 (wrap). -/
theorem test_V_CTL_17 : stepsTo (holding [0xCD, 0x00, 0x09] { State.reset with sp := 0x0001 })
    (fun t => t.f == 0x00 && t.pc == 0x0900 && t.sp == 0xFFFF && t.read8 0x0000 == 0x08 && t.read8 0xFFFF == 0x03) = true := by decide

/-- V-CTL-18: CNZ taken (Z=0). -/
theorem test_V_CTL_18 : stepsTo (holding [0xC4, 0x00, 0x09] State.reset)
    (fun t => t.f == 0x00 && t.pc == 0x0900 && t.sp == 0xFFFD && t.read8 0xFFFD == 0x03 && t.read8 0xFFFE == 0x08) = true := by decide

/-- V-CTL-19: CZ not taken (Z=0). -/
theorem test_V_CTL_19 : stepsTo (holding [0xCC, 0x00, 0x09] State.reset)
    (fun t => t.f == 0x00 && t.pc == 0x0803) = true := by decide

/-- V-CTL-20: CNC taken (CY=0). -/
theorem test_V_CTL_20 : stepsTo (holding [0xD4, 0x00, 0x09] State.reset)
    (fun t => t.f == 0x00 && t.pc == 0x0900 && t.sp == 0xFFFD && t.read8 0xFFFD == 0x03 && t.read8 0xFFFE == 0x08) = true := by decide

/-- V-CTL-21: CC taken (CY=1). -/
theorem test_V_CTL_21 : stepsTo (holding [0xDC, 0x00, 0x09] { State.reset with f := 0x01 })
    (fun t => t.f == 0x01 && t.pc == 0x0900 && t.sp == 0xFFFD && t.read8 0xFFFD == 0x03 && t.read8 0xFFFE == 0x08) = true := by decide

/-- V-CTL-22: CPE unwired (P=1). -/
theorem test_V_CTL_22 : stepsTo (holding [0xEC, 0x00, 0x09] { State.reset with f := 0x04 })
    (fun t => t.f == 0x04 && t.pc == 0x0803) = true := by decide

/-- V-CTL-23: CM unwired (S=1). -/
theorem test_V_CTL_23 : stepsTo (holding [0xFC, 0x00, 0x09] { State.reset with f := 0x80 })
    (fun t => t.f == 0x80 && t.pc == 0x0803) = true := by decide

/-- V-CTL-24: RET. -/
theorem test_V_CTL_24 : stepsTo (holding [0xC9] ((({ State.reset with sp := 0xFFFD }).write8 0xFFFD 0x03).write8 0xFFFE 0x08))
    (fun t => t.f == 0x00 && t.pc == 0x0803 && t.sp == 0xFFFF) = true := by decide

/-- V-CTL-25: RET with sp=0xFFFF (wrap). -/
theorem test_V_CTL_25 : stepsTo (holding [0xC9] ((({ State.reset with sp := 0xFFFF }).write8 0x0000 0x08).write8 0xFFFF 0x10))
    (fun t => t.f == 0x00 && t.pc == 0x0810 && t.sp == 0x0001) = true := by decide

/-- V-CTL-26: RNZ taken (Z=0). -/
theorem test_V_CTL_26 : stepsTo (holding [0xC0] ((({ State.reset with sp := 0xFFFD }).write8 0xFFFD 0x03).write8 0xFFFE 0x08))
    (fun t => t.f == 0x00 && t.pc == 0x0803 && t.sp == 0xFFFF) = true := by decide

/-- V-CTL-27: RZ not taken (Z=0). -/
theorem test_V_CTL_27 : stepsTo (holding [0xC8] ((({ State.reset with sp := 0xFFFD }).write8 0xFFFD 0x03).write8 0xFFFE 0x08))
    (fun t => t.f == 0x00 && t.pc == 0x0801) = true := by decide

/-- V-CTL-28: RNC not taken (CY=1). -/
theorem test_V_CTL_28 : stepsTo (holding [0xD0] ((({ State.reset with f := 0x01, sp := 0xFFFD }).write8 0xFFFD 0x03).write8 0xFFFE 0x08))
    (fun t => t.f == 0x01 && t.pc == 0x0801) = true := by decide

/-- V-CTL-29: RC taken (CY=1). -/
theorem test_V_CTL_29 : stepsTo (holding [0xD8] ((({ State.reset with f := 0x01, sp := 0xFFFD }).write8 0xFFFD 0x03).write8 0xFFFE 0x08))
    (fun t => t.f == 0x01 && t.pc == 0x0803 && t.sp == 0xFFFF) = true := by decide

/-- V-CTL-30: RPO unwired (P=0). -/
theorem test_V_CTL_30 : stepsTo (holding [0xE0] ((({ State.reset with sp := 0xFFFD }).write8 0xFFFD 0x03).write8 0xFFFE 0x08))
    (fun t => t.f == 0x00 && t.pc == 0x0801) = true := by decide

/-- V-CTL-31: RP unwired, Unbound mode. -/
theorem test_V_CTL_31 : stepsTo (holding [0xF0] ((({ State.reset with cfg := { Config.standard with unwiredCcMode := .unbound }, sp := 0xFFFD }).write8 0xFFFD 0x03).write8 0xFFFE 0x08))
    (fun t => t.f == 0x00 && t.pc == 0x0801 && t.reports == [⟨0x0800, 0xF0⟩]) = true := by decide

/-! ## Single-slot instructions (2.5) -/

/-- V-SS-01: NOP. -/
theorem test_V_SS_01 : stepsTo (holding [0x00] { State.reset with a := 0x11, f := 0x41 })
    (fun t => t.f == 0x41 && t.pc == 0x0801) = true := by decide

/-- V-SS-02: HLT. -/
theorem test_V_SS_02 : stepsTo (holding [0x76] State.reset)
    (fun t => t.f == 0x00 && t.pc == 0x0801 && t.running == false) = true := by decide

/-- V-SS-04: LDA 0x2000. -/
theorem test_V_SS_04 : stepsTo (holding [0x3A, 0x00, 0x20] (State.reset.write8 0x2000 0x41))
    (fun t => t.a == 0x41 && t.f == 0x00 && t.pc == 0x0803) = true := by decide

/-- V-SS-05: LDA of its own operand byte (0x0801). -/
theorem test_V_SS_05 : stepsTo (holding [0x3A, 0x01, 0x08] State.reset)
    (fun t => t.a == 0x01 && t.f == 0x00 && t.pc == 0x0803) = true := by decide

/-- V-SS-06: STA 0x3000. -/
theorem test_V_SS_06 : stepsTo (holding [0x32, 0x00, 0x30] { State.reset with a := 0x48 })
    (fun t => t.f == 0x00 && t.pc == 0x0803 && t.read8 0x3000 == 0x48) = true := by decide

/-- V-SS-07: LHLD 0x2000. -/
theorem test_V_SS_07 : stepsTo (holding [0x2A, 0x00, 0x20] ((State.reset.write8 0x2000 0x34).write8 0x2001 0x12))
    (fun t => t.h == 0x12 && t.l == 0x34 && t.f == 0x00 && t.pc == 0x0803) = true := by decide

/-- V-SS-08: LHLD 0xFFFF (wrap). -/
theorem test_V_SS_08 : stepsTo (holding [0x2A, 0xFF, 0xFF] ((State.reset.write8 0x0000 0x12).write8 0xFFFF 0x34))
    (fun t => t.h == 0x12 && t.l == 0x34 && t.f == 0x00 && t.pc == 0x0803) = true := by decide

/-- V-SS-09: SHLD 0x3000. -/
theorem test_V_SS_09 : stepsTo (holding [0x22, 0x00, 0x30] { State.reset with h := 0x12, l := 0x34 })
    (fun t => t.f == 0x00 && t.pc == 0x0803 && t.read8 0x3000 == 0x34 && t.read8 0x3001 == 0x12) = true := by decide

/-- V-SS-10: SHLD 0xFFFF (wrap). -/
theorem test_V_SS_10 : stepsTo (holding [0x22, 0xFF, 0xFF] { State.reset with h := 0x12, l := 0x34 })
    (fun t => t.f == 0x00 && t.pc == 0x0803 && t.read8 0x0000 == 0x12 && t.read8 0xFFFF == 0x34) = true := by decide

/-- V-SS-11: XCHG. -/
theorem test_V_SS_11 : stepsTo (holding [0xEB] { State.reset with h := 0x12, l := 0x34, d := 0xAB, e := 0xCD })
    (fun t => t.d == 0x12 && t.e == 0x34 && t.h == 0xAB && t.l == 0xCD && t.f == 0x00 && t.pc == 0x0801) = true := by decide

/-! ## The sequencer and undefined opcodes (2.6) -/

/-- V-SEQ-01: undefined 0x08. -/
theorem test_V_SEQ_01 : stepsTo (holding [0x08] { State.reset with a := 0x11, f := 0x41 })
    (fun t => t.f == 0x41 && t.pc == 0x0801 && t.reports == [⟨0x0800, 0x08⟩]) = true := by decide

/-- V-SEQ-02: undefined 0xFF (8085 RST 7). -/
theorem test_V_SEQ_02 : stepsTo (holding [0xFF] State.reset)
    (fun t => t.f == 0x00 && t.pc == 0x0801 && t.reports == [⟨0x0800, 0xFF⟩]) = true := by decide

/-- V-SEQ-05: cycle with pc >= STACK_BOUNDARY. -/
theorem test_V_SEQ_05 : stepsTo (holding [0x3C] { State.reset with pc := 0xF000 })
    (fun t => t.f == 0x00 && t.pc == 0xF000 && t.phase == .outOfBounds) = true := by decide

/-- V-SEQ-06: cycle with running=0. -/
theorem test_V_SEQ_06 : stepsTo (holding [0x3C] { State.reset with running := false })
    (fun t => t.f == 0x00 && t.pc == 0x0800 && t.phase == .halted) = true := by decide

/-! ## The inspector port (2.7 and 2.8) and reset (2.9) -/

/-- V-INS-01 and V-INS-05: a register written reads back; a pair written is seen in its registers. -/
theorem test_V_INS_01_05 : (inspect (.readReg 7) (inspect (.writeReg 7 0x42) State.reset).2).1 = .byte 0x42 ∧
    (inspect (.readReg 4) (inspect (.writePair 2 0xBEEF) State.reset).2).1 = .byte 0xBE ∧
    (inspect (.readReg 5) (inspect (.writePair 2 0xBEEF) State.reset).2).1 = .byte 0xEF := by decide

/-- V-INS-02 and V-INS-03: identifier 6 is no register, and the failing write stores nothing. -/
theorem test_V_INS_02_03 : inspect (.readReg 6) State.reset = (.failed .invalidRegister, State.reset) ∧
    inspect (.writeReg 6 0x01) { State.reset with h := 0x20 } =
      (.failed .invalidRegister, { State.reset with h := 0x20 }) := by decide

/-- V-INS-04, V-INS-06 and V-INS-07: PSW carries all 8 bits of F; SP is pair 3; there is no pair 5. -/
theorem test_V_INS_04_06_07 : (inspect (.writePair 4 0x12D7) State.reset).2 = { State.reset with a := 0x12, f := 0xD7 } ∧
    (inspect (.readPair 4) { State.reset with a := 0x12, f := 0xD7 }).1 = .word 0x12D7 ∧
    (inspect .readSP (inspect (.writePair 3 0x1234) State.reset).2).1 = .word 0x1234 ∧
    (inspect (.readPair 5) State.reset).1 = .failed .invalidPair := by decide

/-- V-INS-08, V-INS-09 and V-INS-10: single flags and the flag byte; a name that is none of the five. -/
theorem test_V_INS_08_09_10 : (inspect (.writeFlag (some .ac) true) State.reset).2 = { State.reset with f := 0x10 } ∧
    (inspect (.readFlag (some .cy)) { State.reset with f := 0x2A }).1 = .bool false ∧
    (inspect (.readFlag (some .p)) { State.reset with f := 0x2A }).1 = .bool false ∧
    (inspect (.readFlag (some .z)) { State.reset with f := 0x2A }).1 = .bool false ∧
    (inspect (.readFlag none) State.reset).1 = .failed .invalidRegister := by decide

/-- V-INS-11 to V-INS-14: memory up to 0xFFFF; 0x10000 fails and does not wrap to 0x0000. -/
theorem test_V_INS_11_to_14 : (inspect (.readMem 0xFFFF) (State.reset.write8 0xFFFF 0x99)).1 = .byte 0x99 ∧
    (inspect (.readMem 0x10000) State.reset).1 = .failed .invalidAddress ∧
    inspect (.writeMem 0x10000 0x01) State.reset = (.failed .invalidAddress, State.reset) ∧
    (inspect (.writeMem 0x3000 0x41) State.reset).2.read8 0x3000 = 0x41 := by decide

/-- V-INS-15 and V-INS-C5: a pc written at or above the boundary ends the run at the next cycle. -/
theorem test_V_INS_15 : stepsTo (inspect (.writePC 0xFFFF) State.reset).2
    (fun t => t.pc == 0xFFFF && t.phase == .outOfBounds) = true := by decide

/-- V-INS-16 and V-INS-17: the throttle alone changes; running is read. -/
theorem test_V_INS_16_17 : inspect (.writeThrottle 1000) State.reset = (.done, { State.reset with throttle := 1000 }) ∧
    (inspect .readThrottle { State.reset with throttle := 1000 }).1 = .nat 1000 ∧
    (inspect .readRunning { State.reset with running := false }).1 = .bool false := by decide

/-- V-INS-18: the dump before the first cycle. -/
theorem test_V_INS_18 : inspect .dumpState (holding [0x3E, 0x05, 0x76] State.reset) = (.dump {
    pc := 0x0800, sp := 0xFFFF, a := 0, b := 0, c := 0, d := 0, e := 0, h := 0, l := 0, flagS := false, flagZ := false,
    flagAC := false, flagP := false, flagCY := false, port2000 := 0, port3000 := 0 },
    holding [0x3E, 0x05, 0x76] State.reset) := by decide

/-- V-INS-19 and V-INS-20: Terminate sets the inspector's flag; the run has ended only in a terminal phase (R295). -/
theorem test_V_INS_19_20 : inspect .terminate State.reset = (.done, { State.reset with inspectorDone := true }) ∧
    State.runEnded { State.reset with inspectorDone := true } = false ∧
    State.runEnded { State.reset with inspectorDone := true, phase := .halted } = true := by decide

/-- V-INS-C1: a command turn stores into the program before the first cycle; the cycle after it loads the new byte. -/
theorem test_V_INS_C1 :
    stepsTo { holding [0x3E, 0x05, 0x76] State.reset with schedule := [.command (.writeMem 0x0801 0x07)] }
      (fun t => t.replies == [.done] && t.schedule == [] && t.pc == 0x0800 &&
        stepsTo t (fun u => u.a == 0x07 && u.pc == 0x0802)) = true := by decide

/-- V-INS-C3: a halt is cancelled before the next cycle, which then runs INR A. -/
theorem test_V_INS_C3 :
    stepsTo (inspect (.writeRunning true) { holding [0x76, 0x3C] State.reset with pc := 0x0801, running := false }).2
      (fun t => t.a == 0x01 && t.pc == 0x0802 && t.phase == .running) = true := by decide

/-- V-INS-C4: set again after the phase became Halted, running starts nothing. -/
theorem test_V_INS_C4 :
    stepsTo (inspect (.writeRunning true)
        { holding [0x76, 0x3C] State.reset with pc := 0x0801, running := false, phase := .halted }).2
      (fun t => t.a == 0x00 && t.pc == 0x0801 && t.running && t.phase == .halted) = true := by decide

/-- V-RST-01: the state before the first cycle. -/
theorem test_V_RST_01 : State.boot Config.standard [] (some [0x3E, 0x05, 0x76]) = .next { State.reset with
    mem := [(0x0800, 0x3E), (0x0801, 0x05), (0x0802, 0x76)] } := rfl

/-- V-RST-03 and V-RST-06 with a boundary 2 bytes above the load address: 3 bytes are too many, and so is 1 where they are
equal; the empty image loads there. -/
theorem test_V_RST_03_06 :
    State.boot { Config.standard with stackBoundary := 0x0802 } [] (some [1, 2, 3]) = .refused .imageTooLarge ∧
    State.boot { Config.standard with stackBoundary := 0x0800 } [] (some [1]) = .refused .imageTooLarge ∧
    State.boot { Config.standard with stackBoundary := 0x0800 } [] (some []) =
      .next (State.resetWith { Config.standard with stackBoundary := 0x0800 } []) := ⟨rfl, rfl, rfl⟩

/-- V-RST-04: an unreadable image. -/
theorem test_V_RST_04 : State.boot Config.standard [] none = .refused .imageUnreadable := rfl

/-- R296: the final report names the phase and the dump's fields. -/
theorem test_finalReport : (State.finalReport { State.reset with phase := .halted, a := 0x05 }).2 = .halted ∧
    (State.finalReport { State.reset with phase := .halted, a := 0x05 }).1.a = 0x05 := by decide

/-! ## Witnesses: states and operands that meet the hypotheses of a statement, one for each of its clauses -/

/-- The state of the witnesses: HLT at pc, nothing scheduled. -/
def haltAhead : State := holding [0x76] State.reset

theorem test_witness_DecodeOfEncodeGivesInstruction : WellFormed .unbound (.lxiSp 0xFFFF) = true ∧
    WellFormed .unbound (.undefined 0xFC) = true ∧ WellFormed .boundNeverTransfer (.cm 0x0000) = true := by decide

theorem test_witness_EncodeOfDecodeGivesBytes :
    decode .boundNeverTransfer [0x3A, 0xFF, 0x00, 0x76] = .ok (.lda 0x00FF, [0x76]) := rfl

theorem test_witness_UndefinedOpcodesAreTheListedBytes : (0xFF : Byte) ∈ undefinedOpcodes ∧
    (0xE0 : Byte) ∉ undefinedOpcodes ∧ (0xE0 : Byte) ∈ unwiredOpcodes ∧ (0xFE : Byte) ∉ undefinedOpcodes ∧
    (0xFE : Byte) ∉ unwiredOpcodes := by decide

theorem test_witness_StepRunsDecodedInstruction :
    haltAhead.phase = .running ∧ haltAhead.running = true ∧ haltAhead.pc.toNat < haltAhead.cfg.stackBoundary.toNat ∧
    decode haltAhead.cfg.unwiredCcMode [haltAhead.read8 haltAhead.pc, haltAhead.read8 (haltAhead.pc + 1),
      haltAhead.read8 (haltAhead.pc + 2)] = .ok (.hlt, [0x00, 0x00]) ∧
    haltAhead.schedule = [] ∧ ({ haltAhead with schedule := [.cycle] } : State).schedule = .cycle :: [] :=
  ⟨rfl, rfl, by decide, rfl, rfl, rfl⟩

/-- The highest address a cycle fetches from, one below the boundary (R114). -/
theorem test_witness_StepRunsDecodedInstruction_boundary : ∃ s : State, s.phase = .running ∧ s.running = true ∧
    s.pc.toNat < s.cfg.stackBoundary.toNat ∧ s.pc + 1 = s.cfg.stackBoundary ∧ s.schedule = [] ∧
    decode s.cfg.unwiredCcMode [s.read8 s.pc, s.read8 (s.pc + 1), s.read8 (s.pc + 2)] = .ok (.nop, [0x00, 0x00]) :=
  ⟨{ State.reset with pc := 0xEFFF }, rfl, rfl, by decide, by decide, rfl, rfl⟩

theorem test_witness_ClearedRunningHalts :
    (∃ s : State, SequencerTurn s [] ∧ s.schedule = [] ∧ s.phase = .running ∧ s.running = false) ∧
    (∃ s : State, SequencerTurn s [.command .readPC] ∧ s.schedule = [.cycle, .command .readPC] ∧ s.phase = .running ∧
      s.running = false) :=
  ⟨⟨{ State.reset with running := false }, .inl ⟨rfl, rfl⟩, rfl, rfl, rfl⟩,
    ⟨{ State.reset with running := false, schedule := [.cycle, .command .readPC] }, .inr rfl, rfl, rfl, rfl⟩⟩

theorem test_witness_PcAtBoundaryEndsInOutOfBounds :
    (∃ s : State, SequencerTurn s [] ∧ s.schedule = [] ∧ s.phase = .running ∧ s.running = true ∧
      s.pc = s.cfg.stackBoundary ∧ s.cfg.stackBoundary.toNat ≤ s.pc.toNat) ∧
    (∃ s : State, SequencerTurn s [.cycle] ∧ s.schedule = [.cycle, .cycle] ∧ s.phase = .running ∧ s.running = true ∧
      s.pc = 0xFFFF ∧ s.cfg.stackBoundary.toNat ≤ s.pc.toNat) :=
  ⟨⟨{ State.reset with pc := 0xF000 }, .inl ⟨rfl, rfl⟩, rfl, rfl, rfl, rfl, by decide⟩,
    ⟨{ State.reset with pc := 0xFFFF, schedule := [.cycle, .cycle] }, .inr rfl, rfl, rfl, rfl, rfl, by decide⟩⟩

theorem test_witness_TerminalPhaseIsKept : ∃ s t : State, s.phase ≠ .running ∧ step s = .next t ∧
    ∀ k rest, s.schedule ≠ .command k :: rest :=
  ⟨{ State.reset with phase := .halted }, { State.reset with phase := .halted }, by decide, rfl, by
    intro k rest h
    cases h⟩

theorem test_witness_TerminalPhaseIsKept_command : ∃ s t : State, s.phase = .outOfBounds ∧ step s = .next t ∧
    s.schedule = [.command (.writePC 0x0800)] ∧ t.pc = 0x0800 ∧ t.phase = .outOfBounds :=
  ⟨{ State.reset with phase := .outOfBounds, pc := 0xF000, schedule := [.command (.writePC 0x0800)] }, _, rfl, rfl,
    rfl, rfl, rfl⟩

theorem test_witness_PhaseChangesOnlyAtTheTerminalChecks :
    (∃ s t : State, step s = .next t ∧ t.phase ≠ s.phase ∧ s.running = false) ∧
    (∃ s t : State, step s = .next t ∧ t.phase ≠ s.phase ∧ s.running = true ∧ s.pc = s.cfg.stackBoundary) :=
  ⟨⟨{ State.reset with running := false }, _, rfl, by decide, rfl⟩,
    ⟨{ State.reset with pc := 0xF000 }, _, rfl, by decide, rfl, rfl⟩⟩

theorem test_witness_EveryStepAnswersNextState :
    (∃ s : State, InspectorTerminates s ∧ s.inspectorDone = false ∧
      s.schedule = [.command .readPC, .cycle, .command .terminate]) ∧
    (∃ s : State, InspectorTerminates s ∧ s.inspectorDone = true ∧ s.schedule = []) :=
  ⟨⟨{ State.reset with schedule := [.command .readPC, .cycle, .command .terminate] }, .inr (by decide), rfl, rfl⟩,
    ⟨{ State.reset with inspectorDone := true }, .inl rfl, rfl, rfl⟩⟩

theorem test_witness_StepKeepsMemoryCanonical : ∃ s t : State, s.mem.wf ∧ s.mem ≠ [] ∧ step s = .next t :=
  ⟨haltAhead, _, by decide, by decide, rfl⟩

theorem test_witness_InspectorReadsLeaveCoreStepUnchanged_command : ∃ s t : State, NoInspectorWrites s ∧
    s.schedule = [.command .dumpState, .cycle] ∧ step s = .next t ∧ t.schedule = [.cycle] :=
  ⟨{ haltAhead with schedule := [.command .dumpState, .cycle] }, _, by
    intro k h
    simp only [List.mem_cons, List.not_mem_nil, or_false, Turn.command.injEq, reduceCtorEq] at h
    rw [h]
    rfl, rfl, rfl, rfl⟩

theorem test_witness_InspectorReadsLeaveCoreStepUnchanged_cycle : ∃ s t : State, NoInspectorWrites s ∧
    SequencerTurn s [.command .terminate] ∧ step s = .next t ∧ t.pc = 0x0801 :=
  ⟨{ haltAhead with schedule := [.cycle, .command .terminate] }, _, by
    intro k h
    simp only [List.mem_cons, List.not_mem_nil, or_false, Turn.command.injEq, reduceCtorEq, false_or] at h
    rw [h]
    rfl, .inr rfl, rfl, rfl⟩

theorem test_witness_MemoryReadsLastWrite : ∃ (image : List Byte) (t : State) (q r : Word),
    State.boot Config.standard [] (some image) = .next t ∧ q.toNat + 1 = Config.standard.loadAddr.toNat ∧
    q.toNat < Config.standard.loadAddr.toNat ∧ r.toNat = Config.standard.loadAddr.toNat + image.length ∧
    Config.standard.loadAddr.toNat + image.length ≤ r.toNat :=
  ⟨[0x3E, 0x05, 0x76], _, 0x07FF, 0x0803, rfl, by decide, by decide, by decide, by decide⟩

theorem test_witness_OperandResolution : Reg.l ≠ Reg.h := by decide

theorem test_witness_SixteenBitAccessesAreLittleEndian :
    (0x0001 : Word) ≠ 0xFFFF ∧ (0x0001 : Word) ≠ 0xFFFF + 1 := by decide

theorem test_witness_StackPushThenPop : ∃ (s : State) (q : Word), s.sp = 0x0001 ∧ q = s.sp ∧ q ≠ s.sp - 1 ∧ q ≠ s.sp - 2 :=
  ⟨{ State.reset with sp := 0x0001 }, 0x0001, rfl, rfl, by decide, by decide⟩

theorem test_witness_UnwiredConditionsNeverTransfer :
    Cond.po ∈ [Cond.po, .pe, .p, .m] ∧ Cond.m ∈ [Cond.po, .pe, .p, .m] ∧ 0b000#3 ∈ [0b010#3, 0b100#3, 0b000#3] := by decide

theorem test_witness_NopAndHlt : State.reset.phase = .running ∧ SequencerTurn State.reset [] ∧
    SequencerTurn { State.reset with schedule := [.cycle] } [] := ⟨rfl, .inl ⟨rfl, rfl⟩, .inr rfl⟩

theorem test_witness_UndefinedOpcodeReports : ∃ s : State, SequencerTurn s [] ∧
    SequencerTurn { s with schedule := [.cycle, .cycle] } [.cycle] ∧ s.phase = .running ∧ s.running = true ∧
    s.pc.toNat < s.cfg.stackBoundary.toNat ∧ isUndefinedOpcode s.cfg.unwiredCcMode (s.read8 s.pc) = true :=
  ⟨holding [0x08] State.reset, .inl ⟨rfl, rfl⟩, .inr rfl, rfl, rfl, by decide, by decide⟩

theorem test_witness_OnlyListedFamiliesWriteFlags : ∃ t, exec (.movAB) State.reset = .next t ∧
    familyOf .movAB ∉ [Family.alu, .aluImm, .inr, .dcr, .rotate, .popPsw] :=
  ⟨_, rfl, by decide⟩

theorem test_witness_AuxCarryAndUnusedBitsOnlyByPopPsw : ∃ t, exec (.adi 0x01) { State.reset with f := 0x3A } = .next t ∧
    Instr.adi 0x01 ≠ .popPsw ∧ 4 ∈ [1, 3, 4, 5] :=
  ⟨_, rfl, by decide, by decide⟩

theorem test_witness_OnlyListedInstructionsWriteSp : ∃ t, exec (.inxH) State.reset = .next t ∧
    familyOf .inxH ∉ [Family.push, .pop, .popPsw, .call, .ccc, .ret, .rcc] ∧ Instr.inxH ≠ .inxSp ∧
    Instr.inxH ≠ .dcxSp ∧ ∀ v, Instr.inxH ≠ .lxiSp v :=
  ⟨_, rfl, by decide, by decide, by decide, fun _ h => by cases h⟩

theorem test_witness_PcPassesInstructionUnlessTransfer : ∃ t, exec (.sta 0x3000) { State.reset with pc := 0xFFFE } = .next t ∧
    familyOf (.sta 0x3000) ∉ [Family.jmp, .jcc, .call, .ccc, .ret, .rcc] ∧ t.pc = 0x0001 :=
  ⟨_, rfl, by decide, rfl⟩

theorem test_witness_MemoryChangesOnlyWhereStored :
    (∃ t, exec (.shld 0xFFFF) State.reset = .next t ∧ (0x0001 : Word) ∉ storesTo (.shld 0xFFFF) State.reset) ∧
    (∃ t, exec (.cz 0x0900) State.reset = .next t ∧ State.reset.sp - 1 ∉ storesTo (.cz 0x0900) State.reset) :=
  ⟨⟨_, rfl, by decide⟩, ⟨_, rfl, by decide⟩⟩

theorem test_witness_CommandTurnIsOneStep :
    (∃ s : State, s.schedule = .command .readPC :: [.cycle] ∧ s.inspectorDone = false) ∧
    (∃ s : State, s.schedule = .command .readPC :: [] ∧ s.inspectorDone = true) :=
  ⟨⟨{ State.reset with schedule := [.command .readPC, .cycle] }, rfl, rfl⟩,
    ⟨{ State.reset with schedule := [.command .readPC], inspectorDone := true }, rfl, rfl⟩⟩

theorem test_witness_RegisterCommands : (6 = 6 ∨ 8 ≤ 6) ∧ (8 = 6 ∨ 8 ≤ 8) ∧ (regId .a).toNat = 7 ∧ (regId .l).toNat = 5 := by
  decide

theorem test_witness_PairCommands : 0 < 5 ∧ 4 < 5 ∧ 5 ≤ 5 := by decide

theorem test_witness_FlagCommands : (Flag.cy, 0) ∈ [(Flag.cy, 0), (.p, 2), (.ac, 4), (.z, 6), (.s, 7)] ∧
    (Flag.s, 7) ∈ [(Flag.cy, 0), (.p, 2), (.ac, 4), (.z, 6), (.s, 7)] ∧ 0 < 8 ∧ 7 < 8 := by decide

theorem test_witness_MemoryCommands : 0x0000 ≤ 0xFFFF ∧ 0xFFFF ≤ 0xFFFF ∧ 0xFFFF < 0x10000 := by decide

theorem test_witness_ControlRegisterCommands :
    (∃ s : State, SequencerTurn s [] ∧ SequencerTurn { s with schedule := [.cycle] } [] ∧ s.phase = .running ∧
      s.pc.toNat < s.cfg.stackBoundary.toNat ∧ s.pc + 1 = s.cfg.stackBoundary) ∧
    (∃ s : State, SequencerTurn s [] ∧ SequencerTurn { s with schedule := [.cycle] } [] ∧ s.phase ≠ .running) :=
  ⟨⟨{ State.reset with pc := 0xEFFF }, .inl ⟨rfl, rfl⟩, .inr rfl, rfl, by decide, by decide⟩,
    ⟨{ State.reset with phase := .halted }, .inl ⟨rfl, rfl⟩, .inr rfl, by decide⟩⟩

theorem test_witness_DumpAndTerminate : ∃ s : State, s.inspectorDone = true ∧ s.phase ≠ .running :=
  ⟨{ State.reset with inspectorDone := true, phase := .halted }, rfl, by decide⟩

theorem test_witness_FailingCommandsChangeNothing : (inspect (.readMem 0x10000) State.reset).1 = .failed .invalidAddress := by
  decide

theorem test_witness_BootGivesResetState : ∃ (cfg : Config) (bytes : List Byte), bytes ≠ [] ∧
    cfg.loadAddr.toNat + bytes.length ≤ cfg.stackBoundary.toNat ∧
    cfg.loadAddr.toNat + bytes.length = cfg.stackBoundary.toNat :=
  ⟨{ Config.standard with stackBoundary := 0x0803 }, [0x3E, 0x05, 0x76], by decide, by decide, by decide⟩

theorem test_witness_FailedLoadConstructsNoState :
    (∃ (cfg : Config) (bytes : List Byte), cfg.stackBoundary.toNat < cfg.loadAddr.toNat + bytes.length ∧
      cfg.loadAddr.toNat + bytes.length = cfg.stackBoundary.toNat + 1) ∧
    (∃ (cfg : Config) (bytes : List Byte), cfg.loadAddr.toNat + bytes.length = cfg.stackBoundary.toNat) ∧
    (∃ cfg : Config, cfg.loadAddr.toNat ≤ cfg.stackBoundary.toNat ∧ cfg.loadAddr = cfg.stackBoundary) :=
  ⟨⟨{ Config.standard with stackBoundary := 0x0802 }, [0x3E, 0x05, 0x76], by decide, by decide⟩,
    ⟨{ Config.standard with stackBoundary := 0x0803 }, [0x3E, 0x05, 0x76], by decide⟩,
    ⟨{ Config.standard with stackBoundary := 0x0800 }, by decide, rfl⟩⟩

end Sys2Proof.Tests
end

section
/-! PROOFS. The state family (10_state.md): what a register or pair view reads after a write (R23, R26), and the bytes a list
of bytes stored in order leaves (70_reset_and_hazards.md R290). -/

namespace Sys2Proof.Machine

/-! ## Registers and `M` -/

theorem State.reg_setReg (s : State) (r q : Reg) (v : Byte) :
    (s.setReg r v).reg q = if q = r then v else s.reg q := by
  cases r <;> cases q <;> rfl

theorem State.toNat_mAddr (s : State) : s.mAddr.toNat = s.h.toNat * 256 + s.l.toNat := toNat_mk16 s.h s.l

/-- An operand reads the value written to it: writing `M` moves neither H nor L, so the address is still the same. -/
theorem State.operand_setOperand (s : State) (x : Loc) (v : Byte) : (s.setOperand x v).operand x = v := by
  cases x with
  | reg r => exact (s.reg_setReg r r v).trans (if_pos rfl)
  | m => exact (s.read8_write8 s.mAddr s.mAddr v).trans (if_pos rfl)

/-- Writing a register changes nothing but the registers. -/
theorem State.setReg_frame (s : State) (r : Reg) (v : Byte) :
    { s.setReg r v with b := s.b, c := s.c, d := s.d, e := s.e, h := s.h, l := s.l, a := s.a } = s := by
  cases r <;> rfl

/-! ## Pair views -/

theorem State.pair_setPair (s : State) (p : Pair) (v : Word) : (s.setPair p v).pair p = v := by
  cases p with
  | sp => rfl
  | bc | de | hl => exact mk16_hiByte_loByte v

theorem State.stackPair_setStackPair (s : State) (p : StackPair) (v : Word) :
    (s.setStackPair p v).stackPair p = v := by
  cases p with
  | bc => exact s.pair_setPair .bc v
  | de => exact s.pair_setPair .de v
  | hl => exact s.pair_setPair .hl v
  | psw => exact mk16_hiByte_loByte v

/-- Only the PSW view holds F. -/
theorem State.setStackPair_f_of_ne_psw (s : State) {p : StackPair} (h : p ≠ .psw) (v : Word) :
    (s.setStackPair p v).f = s.f := by
  cases p with
  | psw => exact absurd rfl h
  | bc | de | hl => exact s.setPair_f _ v

/-- Only the SP view holds `sp`. -/
theorem State.setPair_sp_of_ne_sp (s : State) {p : Pair} (h : p ≠ .sp) (v : Word) : (s.setPair p v).sp = s.sp := by
  cases p with
  | sp => exact absurd rfl h
  | bc | de | hl => rfl

/-! ## Bytes stored in order -/

/-- Storing bytes changes only memory. -/
theorem State.storeBytes_eq (s : State) (x : Word) (vs : List Byte) :
    s.storeBytes x vs = { s with mem := (s.storeBytes x vs).mem } := by
  induction vs generalizing s x with
  | nil => rfl
  | cons v vs ih => exact ih (s.write8 x v) (x + 1)

/-- What every address reads after bytes are stored from `x` on: its place in the list is its distance from `x`, modulo 65536;
an address past the list reads as before. -/
theorem State.read8_storeBytes (s : State) (x q : Word) (vs : List Byte) (h : vs.length ≤ 65536) :
    (s.storeBytes x vs).read8 q = vs.getD (q - x).toNat (s.read8 q) := by
  induction vs generalizing s x with
  | nil => rfl
  | cons v vs ih =>
    simp only [List.length_cons] at h
    simp only [State.storeBytes, ih (s.write8 x v) (x + 1) (by omega), State.read8_write8]
    by_cases hq : q = x
    · have hlast : (q - (x + 1)).toNat = 65535 := by bv_omega
      rw [hlast, List.getD_eq_default _ _ (by omega), if_pos hq, hq, BitVec.sub_self]
      rfl
    · have hsucc : (q - x).toNat = (q - (x + 1)).toNat + 1 := by bv_omega
      rw [hsucc, if_neg hq, List.getD_cons_succ]

theorem State.boot_of_fits {cfg : Config} {bytes : List Byte}
    (h : cfg.loadAddr.toNat + bytes.length ≤ cfg.stackBoundary.toNat) (turns : List Turn) :
    State.boot cfg turns (some bytes) = .next ((State.resetWith cfg turns).storeBytes cfg.loadAddr bytes) :=
  if_pos h

end Sys2Proof.Machine
end

section
/-! PROOFS. Frames of all instructions, by the 28 shapes of `Laws/Exec.lean`: what no shape writes, and which shapes write F, `sp`
and `pc` (10_state.md R28, R29, R33, R37). -/

namespace Sys2Proof.Machine

/-! ## From an instruction to its shape -/

theorem eq_run_of_exec {i : Instr} {s t : State} (h : exec i s = .next t) : t = (shapeOf i).run s := by
  rw [exec_eq] at h
  exact (Host.Outcome.next.inj h).symm

theorem eq_mkPop_of_shapeOf {i : Instr} {p : StackPair} (h : shapeOf i = .pop p) : i = mkPop p := by
  cases i <;> cases h <;> rfl

theorem eq_mkInx_of_shapeOf {i : Instr} {p : Pair} (h : shapeOf i = .inx p) : i = mkInx p := by
  cases i <;> cases h <;> rfl

theorem eq_mkDcx_of_shapeOf {i : Instr} {p : Pair} (h : shapeOf i = .dcx p) : i = mkDcx p := by
  cases i <;> cases h <;> rfl

theorem eq_mkLxi_of_shapeOf {i : Instr} {p : Pair} {v : Word} (h : shapeOf i = .lxi p v) : i = mkLxi p v := by
  cases i <;> cases h <;> rfl

/-! ## What the shared operations leave -/

@[simp] theorem alu_pc (op : AluOp) (v : Byte) (s : State) : (alu op v s).pc = s.pc := by rw [alu_eq]
@[simp] theorem alu_sp (op : AluOp) (v : Byte) (s : State) : (alu op v s).sp = s.sp := by rw [alu_eq]

/-- No shape writes the control state: phase, throttle, configuration, and what the inspector and the oracle hold. -/
theorem Shape.run_controlState (x : Shape) (s : State) :
    (x.run s).phase = s.phase ∧ (x.run s).throttle = s.throttle ∧ (x.run s).cfg = s.cfg ∧
    (x.run s).inspectorDone = s.inspectorDone ∧ (x.run s).schedule = s.schedule ∧ (x.run s).replies = s.replies := by
  cases x with
  | alu op src => simp only [Shape.run, aluLoc]; rw [alu_eq]; simp
  | aluImm op v => simp only [Shape.run, Machine.aluImm]; rw [alu_eq]; simp
  | inr dst => simp [Shape.run, Machine.inr]
  | dcr dst => simp [Shape.run, Machine.dcr]
  | push p => simp [Shape.run, push_eq]
  | pop p => simp [Shape.run, pop_eq]
  | call k a => simp only [Shape.run, callTo_eq]; split <;> simp
  | ret k => simp only [Shape.run, ret_eq]; split <;> simp
  | mov dst src | mvi dst v => simp [Shape.run, mov_eq, mvi_eq]
  | lxi p v | inx p | dcx p => simp [Shape.run, Machine.lxi, Machine.inx, Machine.dcx]
  | jump k a => simp [Shape.run, jump_eq]
  | lhld a | shld a | xchg => simp [Shape.run]
  | _ => exact ⟨rfl, rfl, rfl, rfl, rfl, rfl⟩

/-! ## The flag byte -/

theorem Shape.run_f (x : Shape) (s : State) (h : x.family ∉ [Family.alu, .aluImm, .inr, .dcr, .rotate, .popPsw]) :
    (x.run s).f = s.f := by
  cases x with
  | alu | aluImm | inr | dcr | rlc | rrc | ral | rar => exact absurd (by simp [Shape.family]) h
  | pop p =>
    have hp : p ≠ .psw := fun hp => h (by simp [hp, Shape.family])
    simp only [Shape.run, pop_eq, State.setStackPair_f_of_ne_psw _ hp]
  | push p => simp only [Shape.run, push_eq]
  | call k a => simp only [Shape.run, callTo_eq]; split <;> rfl
  | ret k => simp only [Shape.run, ret_eq]; split <;> rfl
  | mov dst src | mvi dst v => simp [Shape.run, mov_eq, mvi_eq]
  | lxi p v | inx p | dcx p => simp [Shape.run, Machine.lxi, Machine.inx, Machine.dcx]
  | jump k a => simp only [Shape.run, jump_eq]
  | lhld a | shld a | xchg => simp [Shape.run]
  | _ => rfl

/-- Flag Computation keeps AC and the unused bits. -/
theorem kept_of_flagsWritten {before after result : Byte} {carry : Bool}
    (h : FlagsWritten before after result carry) : ∀ j ∈ [1, 3, 4, 5], after.getLsbD j = before.getLsbD j := by
  obtain ⟨_, _, _, _, hkept⟩ := h
  exact hkept

/-- A rotate keeps every flag bit but CY, AC and the unused bits among them. -/
theorem rotate_f_kept (r : Byte) (k : Bool) (s : State) :
    ∀ j ∈ [1, 3, 4, 5], (rotate r k s).f.getLsbD j = s.f.getLsbD j := by
  obtain ⟨_, hkept⟩ := (s.advance 1).onlyCarryWritten_setFlag k
  intro j hj
  exact hkept j (by revert j; decide)

theorem Shape.run_f_kept (x : Shape) (s : State) (h : x ≠ .pop .psw) :
    ∀ j ∈ [1, 3, 4, 5], (x.run s).f.getLsbD j = s.f.getLsbD j := by
  by_cases hfam : x.family ∈ [Family.alu, .aluImm, .inr, .dcr, .rotate, .popPsw]
  case neg =>
    rw [Shape.run_f x s hfam]
    exact fun _ _ => rfl
  cases x with
  | alu op src => exact kept_of_flagsWritten (alu_flags op _ (s.advance 1))
  | aluImm op v => exact kept_of_flagsWritten (alu_flags op v (s.advance 2))
  | inr dst =>
    obtain ⟨f, hrun, hf⟩ := inr_eq dst s
    simpa only [Shape.run, hrun, State.setOperand_f] using kept_of_flagsWritten hf
  | dcr dst =>
    obtain ⟨f, hrun, hf⟩ := dcr_eq dst s
    simpa only [Shape.run, hrun, State.setOperand_f] using kept_of_flagsWritten hf
  | rlc | rrc | ral | rar => exact rotate_f_kept _ _ s
  | pop p => cases p with
    | psw => exact absurd rfl h
    | bc | de | hl => exact absurd hfam (by decide)
  | jump k a | call k a | ret k => exact absurd hfam (by cases k <;> simp [Shape.family])
  | _ => exact absurd hfam (by simp [Shape.family])

/-! ## The stack pointer and the program counter -/

theorem Shape.run_sp (x : Shape) (s : State)
    (hfam : x.family ∉ [Family.push, .pop, .popPsw, .call, .ccc, .ret, .rcc])
    (hinx : x ≠ .inx .sp) (hdcx : x ≠ .dcx .sp) (hlxi : ∀ v, x ≠ .lxi .sp v) : (x.run s).sp = s.sp := by
  cases x with
  | push p => exact absurd (by simp [Shape.family]) hfam
  | pop p => exact absurd (by cases p <;> simp [Shape.family]) hfam
  | call k a | ret k => exact absurd (by cases k <;> simp [Shape.family]) hfam
  | inx p => exact State.setPair_sp_of_ne_sp _ (fun hp => hinx (by rw [hp])) _
  | dcx p => exact State.setPair_sp_of_ne_sp _ (fun hp => hdcx (by rw [hp])) _
  | lxi p v => exact State.setPair_sp_of_ne_sp _ (fun hp => hlxi v (by rw [hp])) _
  | alu op src | aluImm op v => simp [Shape.run, aluLoc, Machine.aluImm]
  | inr dst | dcr dst => simp [Shape.run, Machine.inr, Machine.dcr]
  | mov dst src | mvi dst v => simp [Shape.run, mov_eq, mvi_eq]
  | jump k a => simp only [Shape.run, jump_eq]
  | _ => rfl

theorem Shape.run_pc (x : Shape) (s : State) (h : x.family ∉ [Family.jmp, .jcc, .call, .ccc, .ret, .rcc]) :
    (x.run s).pc = s.pc + BitVec.ofNat 16 x.length := by
  cases x with
  | jump k a | call k a | ret k => exact absurd (by cases k <;> simp [Shape.family]) h
  | alu op src | aluImm op v => simp [Shape.run, aluLoc, Machine.aluImm, Shape.length]
  | inr dst | dcr dst => simp [Shape.run, Machine.inr, Machine.dcr, Shape.length]
  | mov dst src | mvi dst v => simp [Shape.run, mov_eq, mvi_eq, Shape.length]
  | lxi p v | inx p | dcx p => simp [Shape.run, Machine.lxi, Machine.inx, Machine.dcx, Shape.length]
  | push p => simp [Shape.run, push_eq, Shape.length]
  | pop p => simp [Shape.run, pop_eq, Shape.length]
  | lhld a | shld a | xchg => simp [Shape.run, Shape.length]
  | _ => rfl

end Sys2Proof.Machine
end

section
/-! PROOFS. What the two agents leave unchanged: an inspector command (60_exceptions.md R261) and a cycle
(40_fetch_execute.md R114 to R117). -/

namespace Sys2Proof.Machine

/-- No command writes the phase, the reports, the configuration or the coming turns. -/
theorem inspect_frame (k : Command) (s : State) :
    (inspect k s).2.phase = s.phase ∧ (inspect k s).2.reports = s.reports ∧ (inspect k s).2.cfg = s.cfg ∧
    (inspect k s).2.schedule = s.schedule := by
  obtain h | ⟨r, v, h⟩ | ⟨p, v, h⟩ | ⟨v, h⟩ | ⟨n, v, h⟩ | ⟨v, h⟩ | ⟨v, h⟩ | ⟨x, v, h⟩ | ⟨v, h⟩ | ⟨n, h⟩ | h :=
    inspect_cases k s <;> simp [h]

/-- A command whose reply is a failure changes nothing. -/
theorem inspect_of_failed {k : Command} {s : State} {why : PortFailure} (h : (inspect k s).1 = .failed why) :
    (inspect k s).2 = s := by
  cases k with
  | writeReg id v =>
    simp only [inspect] at h ⊢
    cases hr : portReg id with
    | none => rfl
    | some r => simp [hr] at h
  | writePair q v =>
    simp only [inspect] at h ⊢
    cases hp : portPair q with
    | none => rfl
    | some p => simp [hp] at h
  | writeFlag n v =>
    cases n with
    | none => rfl
    | some n => cases h
  | writeMem x v =>
    simp only [inspect] at h ⊢
    split
    · rename_i hx
      simp [hx] at h
    · rfl
  | readReg id => simp only [inspect]; split <;> rfl
  | readPair q => simp only [inspect]; split <;> rfl
  | readFlag n => cases n <;> rfl
  | readMem x => simp only [inspect]; split <;> rfl
  | readF | readPC | readSP | readRunning | readThrottle | dumpState => rfl
  | writeF | writePC | writeSP | writeRunning | writeThrottle | terminate => cases h

theorem issue_phase (k : Command) (s : State) : (issue k s).phase = s.phase := by
  cases h : s.inspectorDone with
  | true => rw [issue_of_done h]
  | false =>
    rw [issue_of_not_done h]
    exact (inspect_frame k s).1

/-- A cycle changes the phase only by a terminal check, the check of running before the check of `pc`. -/
theorem cycle_phase {s t : State} (h : cycle s = .next t) (hne : t.phase ≠ s.phase) :
    s.phase = .running ∧
    ((s.running = false ∧ t.phase = .halted) ∨
      (s.running = true ∧ s.cfg.stackBoundary.toNat ≤ s.pc.toNat ∧ t.phase = .outOfBounds)) := by
  obtain ⟨_, hc⟩ | ⟨hp, hr, hc⟩ | ⟨hp, hr, hb, hc⟩ | ⟨_, _, _, hc⟩ := cycle_cases s <;> rw [hc] at h
  · cases h
    exact absurd rfl hne
  · cases h
    exact ⟨hp, .inl ⟨hr, rfl⟩⟩
  · cases h
    exact ⟨hp, .inr ⟨hr, hb, rfl⟩⟩
  · obtain ⟨hphase, _⟩ := (shapeOf s.instrAt).run_controlState s
    rw [eq_run_of_exec h] at hne
    exact absurd hphase hne

end Sys2Proof.Machine
end

section
/-! PROOFS. The statements of the state family (10_state.md). -/

namespace Sys2Proof.Proofs

open Sys2Proof Sys2Proof.Machine

/-- Settles O10: a command keeps the phase, and a cycle changes it only by a terminal check. -/
theorem phaseChangesOnlyAtTheTerminalChecks : Obligations.PhaseChangesOnlyAtTheTerminalChecks := by
  intro s t h hne
  obtain ⟨_, hstep⟩ | ⟨rest, _, hstep⟩ | ⟨k, rest, _, hstep⟩ := step_cases s
  · exact cycle_phase (hstep.symm.trans h) hne
  · exact cycle_phase (s := { s with schedule := rest }) (hstep.symm.trans h) hne
  · cases hstep.symm.trans h
    exact absurd (issue_phase k _) hne

/-- Settles O17, by the laws of reading after writing for registers and for memory at H:L. -/
theorem operandResolution : Obligations.OperandResolution := by
  intro s v
  refine ⟨?readM, fun _ => rfl, fun x => s.operand_setOperand x v, ?otherReg, fun r => s.setReg_frame r v, ?memory, rfl⟩
  case readM => rw [← State.toNat_mAddr]; rfl
  case otherReg => exact fun r q hq => (s.reg_setReg r q v).trans (if_neg hq)
  case memory => exact fun q => by rw [← State.toNat_mAddr]; exact Memory.read_write s.mem _ q v

/-- Settles O18: the halves are `hiByte` and `loByte`, and PUSH PSW and POP PSW go through the PSW view. -/
theorem pairViewsReadWhatWasWritten : Obligations.PairViewsReadWhatWasWritten := by
  intro s v
  refine ⟨fun p => s.pair_setPair p v, fun p => s.stackPair_setStackPair p v,
    toNat_hiByte v, toNat_loByte v, toNat_hiByte v, toNat_loByte v, toNat_hiByte v, toNat_loByte v, rfl,
    toNat_hiByte v, toNat_loByte v, toNat_mk16 _ _, toNat_mk16 _ _, toNat_mk16 _ _, toNat_mk16 _ _,
    fun _ => ⟨rfl, rfl⟩, fun _ => ⟨rfl, rfl⟩, fun _ => ⟨rfl, rfl⟩, ?pushPsw, ?popPsw⟩
  case pushPsw =>
    have hpush : exec .pushPsw s = .next (push .psw s) := exec_eq .pushPsw s
    rw [hpush, push_eq]
    simp only [State.stackPair, hiByte_mk16, loByte_mk16, State.write8]
  case popPsw =>
    have hpop : exec .popPsw s = .next (pop .psw s) := exec_eq .popPsw s
    rw [hpop, pop_eq]
    simp only [State.setStackPair, hiByte_mk16, loByte_mk16, State.setReg, State.setF]

/-- Settles O46, by the frame of F over the shapes. -/
theorem onlyListedFamiliesWriteFlags : Obligations.OnlyListedFamiliesWriteFlags := by
  intro i s t h hfam
  rw [eq_run_of_exec h]
  exact Shape.run_f _ s (by rwa [family_shapeOf])

/-- Settles O47: Flag Computation and the rotates keep these bits, and POP PSW is the one instruction of its shape. -/
theorem auxCarryAndUnusedBitsOnlyByPopPsw : Obligations.AuxCarryAndUnusedBitsOnlyByPopPsw := by
  intro i s t h hi
  rw [eq_run_of_exec h]
  exact Shape.run_f_kept _ s (fun hx => hi (eq_mkPop_of_shapeOf hx))

/-- Settles O48: LXI SP, INX SP and DCX SP are the one instruction of their shape each. -/
theorem onlyListedInstructionsWriteSp : Obligations.OnlyListedInstructionsWriteSp := by
  intro i s t h hfam hinx hdcx hlxi
  rw [eq_run_of_exec h]
  exact Shape.run_sp _ s (by rwa [family_shapeOf]) (fun hx => hinx (eq_mkInx_of_shapeOf hx))
    (fun hx => hdcx (eq_mkDcx_of_shapeOf hx)) (fun v hx => hlxi v (eq_mkLxi_of_shapeOf hx))

/-- Settles O49: a shape is as long as the encoding of its instructions. -/
theorem pcPassesInstructionUnlessTransfer : Obligations.PcPassesInstructionUnlessTransfer := by
  intro i s t h hfam
  rw [eq_run_of_exec h, ← length_shapeOf]
  exact Shape.run_pc _ s (by rwa [family_shapeOf])

/-- Settles O58, by the two frames of `inspect`. -/
theorem failingCommandsChangeNothing : Obligations.FailingCommandsChangeNothing :=
  fun k s => ⟨fun _ h => inspect_of_failed h, inspect_frame k s⟩

/-- Settles O59: the image ends below 65536, so no byte wraps and an address's place in it is its distance from LOAD_ADDR. -/
theorem bootGivesResetState : Obligations.BootGivesResetState := by
  intro cfg turns bytes hfit
  have hboundary := cfg.stackBoundary.isLt
  refine ⟨((State.resetWith cfg turns).storeBytes cfg.loadAddr bytes).mem, ?state,
    State.wf_storeBytes (State.wf_resetWith cfg turns) _ _, fun q => ?read⟩
  case state =>
    rw [State.boot_of_fits hfit, State.storeBytes_eq]
    rfl
  case read =>
    refine (State.read8_storeBytes _ cfg.loadAddr q bytes (by omega)).trans ?_
    have hzero : (State.resetWith cfg turns).read8 q = 0 := rfl
    rw [hzero]
    split
    · have hplace : (q - cfg.loadAddr).toNat = q.toNat - cfg.loadAddr.toNat := by bv_omega
      rw [hplace]
    · exact List.getD_eq_default _ _ (by bv_omega)

/-- Settles O14: the reset memory lists nothing, and the empty image fits and stores nothing. -/
theorem resetMemoryIsCanonical : Obligations.ResetMemoryIsCanonical :=
  ⟨State.wf_reset, State.wf_resetWith, State.boot_of_fits (by decide) []⟩

end Sys2Proof.Proofs
end

section
/-! PROOFS. The memory family (20_memory.md): what an address reads after bytes are stored in order (R64) and after a 16-bit write
(R54, R55), what an instruction leaves in memory (R58), and that both agents keep the canonical form (R53, R268). -/

namespace Sys2Proof.Machine

/-! ## Bytes stored in order -/

theorem State.storeBytes_pc (s : State) (x : Word) (vs : List Byte) : (s.storeBytes x vs).pc = s.pc := by
  rw [State.storeBytes_eq]

theorem State.storeBytes_cfg (s : State) (x : Word) (vs : List Byte) : (s.storeBytes x vs).cfg = s.cfg := by
  rw [State.storeBytes_eq]

/-- The byte at distance `n` from the start, modulo 65536, is the `n`-th one stored. -/
theorem State.read8_storeBytes_add (s : State) (x : Word) {vs : List Byte} (h : vs.length ≤ 65536) {n : Nat}
    (hn : n < vs.length) : (s.storeBytes x vs).read8 (x + BitVec.ofNat 16 n) = vs[n] := by
  have hdist : (x + BitVec.ofNat 16 n - x).toNat = n := by bv_omega
  rw [State.read8_storeBytes s x _ vs h, hdist, List.getD_eq_getElem _ _ hn]

/-- Bytes that end by 65536 leave every address before and after them. -/
theorem State.read8_storeBytes_outside (s : State) {x q : Word} {vs : List Byte} (h : x.toNat + vs.length ≤ 65536)
    (hq : q.toNat < x.toNat ∨ x.toNat + vs.length ≤ q.toNat) : (s.storeBytes x vs).read8 q = s.read8 q := by
  have hdist : vs.length ≤ (q - x).toNat := by bv_omega
  rw [State.read8_storeBytes s x q vs (by omega), List.getD_eq_default _ _ hdist]

/-- A boot that answers a state had an image that fits, and stored it over the reset state. -/
theorem State.eq_of_boot {cfg : Config} {turns : List Turn} {bytes : List Byte} {t : State}
    (h : State.boot cfg turns (some bytes) = .next t) :
    cfg.loadAddr.toNat + bytes.length ≤ cfg.stackBoundary.toNat ∧
    t = (State.resetWith cfg turns).storeBytes cfg.loadAddr bytes := by
  by_cases hfit : cfg.loadAddr.toNat + bytes.length ≤ cfg.stackBoundary.toNat
  · exact ⟨hfit, (Host.Outcome.next.inj ((State.boot_of_fits hfit turns).symm.trans h)).symm⟩
  · simp [State.boot, hfit] at h

/-! ## 16-bit accesses -/

theorem State.toNat_read16 (s : State) (x : Word) :
    (s.read16 x).toNat = (s.read8 (x + 1)).toNat * 256 + (s.read8 x).toNat := toNat_mk16 _ _

theorem State.read8_write16 (s : State) (x q v : Word) :
    (s.write16 x v).read8 q = if q = x + 1 then hiByte v else if q = x then loByte v else s.read8 q := by
  simp only [State.write16, State.read8_write8]

theorem State.read8_write16_lo (s : State) (x v : Word) : (s.write16 x v).read8 x = loByte v := by
  have hne : x ≠ x + 1 := by bv_omega
  rw [State.read8_write16, if_neg hne, if_pos rfl]

theorem State.read8_write16_hi (s : State) (x v : Word) : (s.write16 x v).read8 (x + 1) = hiByte v := by
  rw [State.read8_write16, if_pos rfl]

theorem State.read16_write16 (s : State) (x v : Word) : (s.write16 x v).read16 x = v := by
  rw [State.read16, State.read8_write16_lo, State.read8_write16_hi, mk16_hiByte_loByte]

/-! ## What an instruction leaves in memory -/

theorem Memory.read_write_of_ne (m : Memory) {x q : Word} (h : q ≠ x) (v : Byte) :
    (m.write x.toNat v).read q.toNat = m.read q.toNat := by
  rw [Memory.read_write, if_neg (fun heq => h (BitVec.eq_of_toNat_eq heq))]

theorem Shape.read8_run (x : Shape) (s : State) {q : Word} (h : q ∉ x.storesTo s) :
    (x.run s).read8 q = s.read8 q := by
  obtain ⟨hmem, _⟩ | ⟨a, v, hto, hmem⟩ | ⟨a, b, v, w, hto, hmem⟩ := x.mem_run s <;> rw [State.read8, hmem]
  · rfl
  · rw [hto, List.mem_singleton] at h
    exact Memory.read_write_of_ne s.mem h v
  · rw [hto, List.mem_pair, not_or] at h
    obtain ⟨ha, hb⟩ := h
    rw [Memory.read_write_of_ne _ hb, Memory.read_write_of_ne _ ha]
    rfl

/-! ## The canonical form -/

theorem Shape.wf_run (x : Shape) {s : State} (h : s.mem.wf) : (x.run s).mem.wf := by
  obtain ⟨hmem, _⟩ | ⟨a, v, _, hmem⟩ | ⟨a, b, v, w, _, hmem⟩ := x.mem_run s <;> rw [hmem]
  · exact h
  · exact Memory.wf_write h a.isLt v
  · exact Memory.wf_write (Memory.wf_write h a.isLt v) b.isLt w

/-- No cycle but one that executes an instruction touches memory. -/
theorem wf_of_cycle {s t : State} (h : s.mem.wf) (hc : cycle s = .next t) : t.mem.wf := by
  obtain ⟨_, heq⟩ | ⟨_, _, heq⟩ | ⟨_, _, _, heq⟩ | ⟨_, _, _, heq⟩ := cycle_cases s <;> rw [heq] at hc
  · cases hc
    exact h
  · cases hc
    exact h
  · cases hc
    exact h
  · rw [eq_run_of_exec hc]
    exact Shape.wf_run _ h

/-- No command but a memory write touches memory. -/
theorem wf_inspect (k : Command) {s : State} (h : s.mem.wf) : (inspect k s).2.mem.wf := by
  obtain heq | ⟨r, v, heq⟩ | ⟨p, v, heq⟩ | ⟨v, heq⟩ | ⟨n, v, heq⟩ | ⟨v, heq⟩ | ⟨v, heq⟩ | ⟨x, v, heq⟩ | ⟨v, heq⟩ |
    ⟨n, heq⟩ | heq := inspect_cases k s <;> rw [heq]
  on_goal 8 => exact State.wf_write8 h x v
  all_goals simpa using h

theorem wf_issue (k : Command) {s : State} (h : s.mem.wf) : (issue k s).mem.wf := by
  cases hdone : s.inspectorDone with
  | true => rwa [issue_of_done hdone]
  | false =>
    rw [issue_of_not_done hdone]
    exact wf_inspect k h

end Sys2Proof.Machine
end

section
/-! PROOFS. The statements of the memory family (20_memory.md). -/

namespace Sys2Proof.Proofs

open Sys2Proof Sys2Proof.Machine

/-- Settles O13: a step is a cycle or a command, and each keeps the canonical form. -/
theorem stepKeepsMemoryCanonical : Obligations.StepKeepsMemoryCanonical := by
  intro s t h ht
  obtain ⟨_, hstep⟩ | ⟨rest, _, hstep⟩ | ⟨k, rest, _, hstep⟩ := step_cases s
  · exact wf_of_cycle h (hstep.symm.trans ht)
  · exact wf_of_cycle (s := { s with schedule := rest }) h (hstep.symm.trans ht)
  · cases hstep.symm.trans ht
    exact wf_issue k h

/-- Settles O16: the fetch addresses are at distance 0, 1 and 2 from `pc`, and storing bytes moves neither `pc` nor the mode. -/
theorem storesIntoInstructionBytesAreFetched : Obligations.StoresIntoInstructionBytesAreFetched := by
  intro s op lo hi
  have hop : (s.storeBytes s.pc [op, lo, hi]).read8 s.pc = op := by
    simpa using s.read8_storeBytes_add s.pc (vs := [op, lo, hi]) (n := 0) (by simp) (by simp)
  have hlo : (s.storeBytes s.pc [op, lo, hi]).read8 (s.pc + 1) = lo :=
    s.read8_storeBytes_add s.pc (n := 1) (by simp) (by simp)
  have hhi : (s.storeBytes s.pc [op, lo, hi]).read8 (s.pc + 2) = hi :=
    s.read8_storeBytes_add s.pc (n := 2) (by simp) (by simp)
  rw [State.instrAt, State.storeBytes_pc, State.storeBytes_cfg, hop, hlo, hhi]

/-- Settles O19: an image that boots ends below 65536, so no byte wraps to an address outside it. -/
theorem memoryReadsLastWrite : Obligations.MemoryReadsLastWrite := by
  intro s x q v
  refine ⟨s.read8_write8 x q v, rfl, fun _ _ => rfl, fun cfg turns image t hboot hq => ?_⟩
  obtain ⟨hfit, rfl⟩ := State.eq_of_boot hboot
  have hboundary := cfg.stackBoundary.isLt
  exact State.read8_storeBytes_outside (State.resetWith cfg turns) (by omega) hq

/-- Settles O20, by what every address reads after a 16-bit write; 0xFFFF plus 1 is 0. -/
theorem sixteenBitAccessesAreLittleEndian : Obligations.SixteenBitAccessesAreLittleEndian := by
  intro s x v
  refine ⟨s.toNat_read16 x, s.read8_write16_lo x v, s.read8_write16_hi x v, fun q hlo hhi => ?_,
    s.read16_write16 x v, s.toNat_read16 0xFFFF⟩
  rw [State.read8_write16, if_neg hhi, if_neg hlo]

/-- Settles O50, by the frame of memory over the shapes. -/
theorem memoryChangesOnlyWhereStored : Obligations.MemoryChangesOnlyWhereStored := by
  intro i s t h q hq
  rw [eq_run_of_exec h]
  exact Shape.read8_run _ s (by rwa [storesTo_shapeOf])

end Sys2Proof.Proofs
end

section
/-! PROOFS. Encoding by fields (30_encoding.md R81, R82): an opcode byte is put together from its three fields, each family's
encoding is its number in them, and an instruction is well formed as its shape is. -/

namespace Sys2Proof.Machine

/-! ## The fields of an opcode byte -/

/-- The opcode byte with the bits `b` at 7:6, `h` at 5:3 and `l` at 2:0 (R81). -/
def opcode (b : BitVec 2) (h l : BitVec 3) : Byte := b ++ h ++ l

@[simp] theorem block_opcode (b : BitVec 2) (h l : BitVec 3) : (opcode b h l).extractLsb' 6 2 = b := by
  decide +revert

@[simp] theorem fieldHi_opcode (b : BitVec 2) (h l : BitVec 3) : fieldHi (opcode b h l) = h := by
  decide +revert

@[simp] theorem fieldLo_opcode (b : BitVec 2) (h l : BitVec 3) : fieldLo (opcode b h l) = l := by
  decide +revert

theorem opcode_fields (op : Byte) : opcode (op.extractLsb' 6 2) (fieldHi op) (fieldLo op) = op := by
  decide +revert

@[simp] theorem locId_locOf (n : BitVec 3) : locId (locOf n) = n := by decide +revert

@[simp] theorem aluId_aluOf (n : BitVec 3) : aluId (aluOf n) = n := by decide +revert

@[simp] theorem condId_condOf (n : BitVec 3) : condId (condOf n) = n := by decide +revert

/-- The values of a three-bit field. -/
theorem threeBit_cases {motive : BitVec 3 → Prop} (b000 : motive 0b000) (b001 : motive 0b001) (b010 : motive 0b010)
    (b011 : motive 0b011) (b100 : motive 0b100) (b101 : motive 0b101) (b110 : motive 0b110) (b111 : motive 0b111)
    (n : BitVec 3) : motive n := by
  obtain rfl | rfl | rfl | rfl | rfl | rfl | rfl | rfl :
      n = 0b000 ∨ n = 0b001 ∨ n = 0b010 ∨ n = 0b011 ∨ n = 0b100 ∨ n = 0b101 ∨ n = 0b110 ∨ n = 0b111 := by
    decide +revert
  all_goals assumption

/-! ## The encoding of each family that is numbered by a field -/

/-- The block `01dddsss`, HLT among it (R87, R93). -/
theorem encode_mkMov (x y : Loc) : encode (mkMov x y) = [opcode 0b01 (locId x) (locId y)] := by
  rcases x with r | _ <;> rcases y with q | _
  · cases r <;> cases q <;> rfl
  · cases r <;> rfl
  · cases q <;> rfl
  · rfl

theorem encode_mkAlu (o : AluOp) (x : Loc) : encode (mkAlu o x) = [opcode 0b10 (aluId o) (locId x)] := by
  rcases x with r | _
  · cases o <;> cases r <;> rfl
  · cases o <;> rfl

theorem encode_mkInr (x : Loc) : encode (mkInr x) = [opcode 0b00 (locId x) 0b100] := by
  rcases x with r | _
  · cases r <;> rfl
  · rfl

theorem encode_mkDcr (x : Loc) : encode (mkDcr x) = [opcode 0b00 (locId x) 0b101] := by
  rcases x with r | _
  · cases r <;> rfl
  · rfl

theorem encode_mkMvi (x : Loc) (v : Byte) : encode (mkMvi x v) = [opcode 0b00 (locId x) 0b110, v] := by
  rcases x with r | _
  · cases r <;> rfl
  · rfl

theorem encode_mkAluImm (o : AluOp) (v : Byte) : encode (mkAluImm o v) = [opcode 0b11 (aluId o) 0b110, v] := by
  cases o <;> rfl

theorem encode_mkRcc (k : Cond) : encode (mkRcc k) = [opcode 0b11 (condId k) 0b000] := by cases k <;> rfl

theorem encode_mkJcc (k : Cond) (a : Word) :
    encode (mkJcc k a) = [opcode 0b11 (condId k) 0b010, loByte a, hiByte a] := by cases k <;> rfl

theorem encode_mkCcc (k : Cond) (a : Word) :
    encode (mkCcc k a) = [opcode 0b11 (condId k) 0b100, loByte a, hiByte a] := by cases k <;> rfl

theorem shapeOf_mkAluImm (o : AluOp) (v : Byte) : shapeOf (mkAluImm o v) = .aluImm o v := by cases o <;> rfl

/-! ## Which instructions are well formed, by shape -/

/-- Which shapes a mode has (R91, R95, R202), for `wellFormed_shapeOf`. -/
def Shape.wellFormed (mode : UnwiredCcMode) : Shape → Bool
  | .jump (some k) _ | .call (some k) _ | .ret (some k) => !(unwired k && mode == .unbound)
  | .undefined op => isUndefinedOpcode mode op
  | _ => true

theorem wellFormed_shapeOf (mode : UnwiredCcMode) (i : Instr) : (shapeOf i).wellFormed mode = WellFormed mode i := by
  cases mode <;> cases i <;> rfl

theorem wellFormed_mkMov (mode : UnwiredCcMode) (x y : Loc) : WellFormed mode (mkMov x y) = true := by
  by_cases h : x = .m ∧ y = .m
  · obtain ⟨rfl, rfl⟩ := h
    rfl
  · rw [← wellFormed_shapeOf, shapeOf_mkMov x y h]
    rfl

end Sys2Proof.Machine
end

section
/-! PROOFS. Decoding (30_encoding.md R80 to R86): what the decoder reads is well formed and encodes to the bytes read, the table
of lengths, and decoding an encoding. -/

namespace Sys2Proof.Machine

/-! ## What the decoder reads, block by block -/

/-- The instruction that the mode reads from three bytes is well formed, and its encoding is as many of them as the opcode
byte says. -/
def ReadsBack (mode : UnwiredCcMode) (op lo hi : Byte) (i : Instr) : Prop :=
  WellFormed mode i = true ∧ encode i = [op, lo, hi].take (opLength mode op)

/-- A condition-keyed instruction, or the undefined opcode where the mode does not bind the condition (R202). -/
theorem readsBack_bindCond {mode : UnwiredCcMode} {op lo hi : Byte} {k : Cond} {i : Instr} {n : Nat}
    (hop : unwired k = true → isUndefinedOpcode .unbound op = true)
    (hlen : opLength mode op = if unwired k && mode == .unbound then 1 else n)
    (hwf : WellFormed mode i = !(unwired k && mode == .unbound)) (henc : encode i = [op, lo, hi].take n) :
    ReadsBack mode op lo hi (bindCond mode op k i) := by
  unfold ReadsBack bindCond
  cases hu : (unwired k && mode == .unbound)
  · exact ⟨by simpa [hu] using hwf, by simpa [hlen, hu] using henc⟩
  · obtain ⟨hk, rfl⟩ : unwired k = true ∧ mode = .unbound := by simpa using hu
    exact ⟨by simpa [WellFormed] using hop hk, by simp [encode, hlen, hk]⟩

/-- In the families R91 keys by a condition, the unwired conditions have the twelve bytes of R202. -/
theorem isUndefinedOpcode_of_unwired {h l : BitVec 3} (hl : l = 0b000 ∨ l = 0b010 ∨ l = 0b100) :
    unwired (condOf h) = true → isUndefinedOpcode .unbound (opcode 0b11 h l) = true := by
  decide +revert

/-- INR, DCR and MVI are numbered by their whole register field; the other families of the block (R88, R90, R92) are listed. -/
theorem readsBack_decodeBlock0 (mode : UnwiredCcMode) (h l : BitVec 3) (w : Word) :
    ReadsBack mode (opcode 0b00 h l) (loByte w) (hiByte w) (decodeBlock0 (opcode 0b00 h l) (loByte w) w) := by
  cases l using threeBit_cases with
  | b100 => simp [ReadsBack, decodeBlock0, opLength, ← wellFormed_shapeOf, shapeOf_mkInr, Shape.wellFormed, encode_mkInr]
  | b101 => simp [ReadsBack, decodeBlock0, opLength, ← wellFormed_shapeOf, shapeOf_mkDcr, Shape.wellFormed, encode_mkDcr]
  | b110 => simp [ReadsBack, decodeBlock0, opLength, ← wellFormed_shapeOf, shapeOf_mkMvi, Shape.wellFormed, encode_mkMvi]
  | b000 | b001 | b010 | b011 | b111 => cases h using threeBit_cases <;> exact ⟨rfl, rfl⟩

/-- The conditional and the ALU immediate families are numbered by their whole field; the others (R90 to R92) are listed. -/
theorem readsBack_decodeBlock3 (mode : UnwiredCcMode) (h l : BitVec 3) (w : Word) :
    ReadsBack mode (opcode 0b11 h l) (loByte w) (hiByte w) (decodeBlock3 mode (opcode 0b11 h l) (loByte w) w) := by
  cases l using threeBit_cases with
  | b000 =>
    simpa [decodeBlock3] using readsBack_bindCond (n := 1) (isUndefinedOpcode_of_unwired (by simp)) (by simp [opLength])
      (by rw [← wellFormed_shapeOf, shapeOf_mkRcc, Shape.wellFormed]) (by simp [encode_mkRcc])
  | b010 =>
    simpa [decodeBlock3] using readsBack_bindCond (n := 3) (isUndefinedOpcode_of_unwired (by simp)) (by simp [opLength])
      (by rw [← wellFormed_shapeOf, shapeOf_mkJcc, Shape.wellFormed]) (by simp [encode_mkJcc])
  | b100 =>
    simpa [decodeBlock3] using readsBack_bindCond (n := 3) (isUndefinedOpcode_of_unwired (by simp)) (by simp [opLength])
      (by rw [← wellFormed_shapeOf, shapeOf_mkCcc, Shape.wellFormed]) (by simp [encode_mkCcc])
  | b110 =>
    simp [ReadsBack, decodeBlock3, opLength, ← wellFormed_shapeOf, shapeOf_mkAluImm, Shape.wellFormed, encode_mkAluImm]
  | b001 | b011 | b101 | b111 => cases h using threeBit_cases <;> exact ⟨rfl, rfl⟩

theorem readsBack_decodeOp_opcode (mode : UnwiredCcMode) (b : BitVec 2) (h l : BitVec 3) (w : Word) :
    ReadsBack mode (opcode b h l) (loByte w) (hiByte w) (decodeOp mode (opcode b h l) (loByte w) (hiByte w)) := by
  obtain rfl | rfl | rfl | rfl : b = 0b00 ∨ b = 0b01 ∨ b = 0b10 ∨ b = 0b11 := by decide +revert
  · simpa [decodeOp] using readsBack_decodeBlock0 mode h l w
  · simp [ReadsBack, decodeOp, opLength, wellFormed_mkMov, encode_mkMov]
  · simp [ReadsBack, decodeOp, opLength, ← wellFormed_shapeOf, shapeOf_mkAlu, Shape.wellFormed, encode_mkAlu]
  · simpa [decodeOp] using readsBack_decodeBlock3 mode h l w

/-- Every opcode byte is put together from its fields, and any two operand bytes are those of a word. -/
theorem readsBack_decodeOp (mode : UnwiredCcMode) (op lo hi : Byte) :
    ReadsBack mode op lo hi (decodeOp mode op lo hi) := by
  simpa [opcode_fields] using
    readsBack_decodeOp_opcode mode (op.extractLsb' 6 2) (fieldHi op) (fieldLo op) (mk16 hi lo)

/-! ## The number of bytes (R80, R83) -/

/-- The opcodes with one operand byte (R83). -/
def twoByteOpcodes : List Byte :=
  [0x06, 0x0E, 0x16, 0x1E, 0x26, 0x2E, 0x36, 0x3E, 0xC6, 0xCE, 0xD6, 0xDE, 0xE6, 0xEE, 0xF6, 0xFE]

/-- The opcodes with two operand bytes where the mode binds them (R83). -/
def threeByteOpcodes : List Byte :=
  [0x01, 0x11, 0x21, 0x22, 0x2A, 0x31, 0x32, 0x3A, 0xC2, 0xC3, 0xC4, 0xCA, 0xCC, 0xCD, 0xD2, 0xD4, 0xDA, 0xDC,
   0xE2, 0xE4, 0xEA, 0xEC, 0xF2, 0xF4, 0xFA, 0xFC]

theorem opLength_eq (mode : UnwiredCcMode) (op : Byte) :
    opLength mode op =
      if op ∈ twoByteOpcodes then 2
      else if mode = .unbound ∧ op ∈ unwiredOpcodes then 1
      else if op ∈ threeByteOpcodes then 3
      else 1 := by
  cases mode
  · decide +revert
  · decide +revert

theorem one_le_opLength (mode : UnwiredCcMode) (op : Byte) : 1 ≤ opLength mode op := by
  rw [opLength_eq]
  split_ifs <;> decide

theorem opLength_le_three (mode : UnwiredCcMode) (op : Byte) : opLength mode op ≤ 3 := by
  rw [opLength_eq]
  split_ifs <;> decide

/-! ## Decoding a byte list -/

/-- With all its operand bytes there, an instruction is read and the bytes after it are left. -/
theorem decode_cons {mode : UnwiredCcMode} {op : Byte} {tail : List Byte} (h : opLength mode op ≤ tail.length + 1) :
    decode mode (op :: tail) =
      .ok (decodeOp mode op (tail.getD 0 0) (tail.getD 1 0), tail.drop (opLength mode op - 1)) :=
  if_neg (Nat.not_lt.mpr h)

theorem exists_of_decode {mode : UnwiredCcMode} {bytes rest : List Byte} {i : Instr}
    (h : decode mode bytes = .ok (i, rest)) :
    ∃ op tail, bytes = op :: tail ∧ opLength mode op ≤ tail.length + 1 ∧
      i = decodeOp mode op (tail.getD 0 0) (tail.getD 1 0) ∧ rest = tail.drop (opLength mode op - 1) := by
  cases bytes with
  | nil => cases h
  | cons op tail =>
    by_cases hlen : opLength mode op ≤ tail.length + 1
    · cases (decode_cons hlen).symm.trans h
      exact ⟨op, tail, rfl, hlen, rfl, rfl⟩
    · simp [decode, Nat.not_le.mp hlen] at h

/-- The bytes an instruction takes and the bytes after it are all bytes: three are enough for it. -/
theorem take_append_drop_of_le_three {op : Byte} {tail : List Byte} {n : Nat} (h1 : 1 ≤ n) (h3 : n ≤ 3)
    (hlen : n ≤ tail.length + 1) :
    [op, tail.getD 0 0, tail.getD 1 0].take n ++ tail.drop (n - 1) = op :: tail := by
  match n, tail with
  | 1, _ => simp
  | 2, lo :: _ => simp
  | 3, lo :: hi :: _ => simp

/-! ## Decoding an encoding -/

/-- An encoding whose operand bytes its opcode asks for, and from which the decoder makes the instruction, decodes. -/
theorem decode_encode_of_decodeOp {mode : UnwiredCcMode} {i : Instr} {op : Byte} {args : List Byte}
    (henc : encode i = op :: args) (hlen : opLength mode op = args.length + 1)
    (hop : ∀ tail, decodeOp mode op ((args ++ tail).getD 0 0) ((args ++ tail).getD 1 0) = i) (rest : List Byte) :
    decode mode (encode i ++ rest) = .ok (i, rest) := by
  rw [henc, List.cons_append, decode_cons (by simp [hlen]), hop, hlen]
  simp

/-- An instruction with a 16-bit operand, which the decoder puts together again from its two bytes (R84). -/
theorem decode_encode_word {mode : UnwiredCcMode} {mk : Word → Instr} {op : Byte} {v : Word}
    (henc : encode (mk v) = [op, loByte v, hiByte v]) (hlen : opLength mode op = 3)
    (hop : ∀ lo hi, decodeOp mode op lo hi = mk (mk16 hi lo)) (rest : List Byte) :
    decode mode (encode (mk v) ++ rest) = .ok (mk v, rest) :=
  decode_encode_of_decodeOp henc hlen (fun _ => (hop _ _).trans (congrArg mk (mk16_hiByte_loByte v))) rest

theorem isUndefinedOpcode_iff {mode : UnwiredCcMode} {op : Byte} :
    isUndefinedOpcode mode op = true ↔ op ∈ undefinedOpcodes ∨ mode = .unbound ∧ op ∈ unwiredOpcodes := by
  simp [isUndefinedOpcode]

/-- An undefined opcode is read as that, whatever follows it (R95, R202). -/
theorem decodeOp_of_isUndefinedOpcode {mode : UnwiredCcMode} {op : Byte} (h : isUndefinedOpcode mode op = true)
    (lo hi : Byte) : decodeOp mode op lo hi = .undefined op := by
  obtain hmem | ⟨rfl, hmem⟩ := isUndefinedOpcode_iff.mp h
  · fin_cases hmem <;> rfl
  · fin_cases hmem <;> rfl

/-- By the constructors: an undefined opcode, then those that only the default mode has, without and with an address, then those
with a 16-bit operand, then the rest, whose operand, if any, is one byte. -/
theorem decode_encode {mode : UnwiredCcMode} {i : Instr} (h : WellFormed mode i = true) (rest : List Byte) :
    decode mode (encode i ++ rest) = .ok (i, rest) := by
  cases i with
  | undefined op =>
    exact decode_encode_of_decodeOp (args := []) rfl (Laws.OpcodeFixesLength.opLength_of_isUndefinedOpcode mode op h)
      (fun _ => decodeOp_of_isUndefinedOpcode h _ _) rest
  | rpo | rpe | rp | rm =>
    obtain rfl : mode = .boundNeverTransfer := by simpa [WellFormed] using h
    exact decode_encode_of_decodeOp rfl rfl (fun _ => rfl) rest
  | jpo a | jpe a | jp a | jm a | cpo a | cpe a | cp a | cm a =>
    obtain rfl : mode = .boundNeverTransfer := by simpa [WellFormed] using h
    exact decode_encode_word rfl rfl (fun _ _ => rfl) rest
  | lxiB v | lxiD v | lxiH v | lxiSp v | jmp v | jnz v | jz v | jnc v | jc v | call v | cnz v | cz v | cnc v | cc v
  | lda v | sta v | lhld v | shld v => exact decode_encode_word rfl rfl (fun _ _ => rfl) rest
  | _ => exact decode_encode_of_decodeOp rfl rfl (fun _ => rfl) rest

end Sys2Proof.Machine
end

section
/-! PROOFS. The statements of the encoding family (30_encoding.md). -/

namespace Sys2Proof.Proofs

open Sys2Proof Sys2Proof.Machine

/-- Settles O1, by the constructors: each one's opcode and operand bytes decode to it. -/
theorem decodeOfEncodeGivesInstruction : Obligations.DecodeOfEncodeGivesInstruction :=
  fun _ _ rest h => decode_encode h rest

/-- Settles O2, by the fields of the opcode: what the decoder reads from three bytes encodes to as many as it takes. -/
theorem encodeOfDecodeGivesBytes : Obligations.EncodeOfDecodeGivesBytes := by
  intro mode bytes i rest h
  obtain ⟨op, tail, rfl, hlen, rfl, rfl⟩ := exists_of_decode h
  obtain ⟨hwf, henc⟩ := readsBack_decodeOp mode op (tail.getD 0 0) (tail.getD 1 0)
  refine ⟨hwf, ?_⟩
  rw [henc]
  exact take_append_drop_of_le_three (one_le_opLength mode op) (opLength_le_three mode op) hlen

/-- Settles O3: a listed byte alone is the encoding of a well-formed undefined instruction; and an undefined instruction that the
decoder reads is well formed and encodes to the opcode byte, which is listed. -/
theorem undefinedOpcodesAreTheListedBytes : Obligations.UndefinedOpcodesAreTheListedBytes := by
  intro mode op
  change if op ∈ undefinedOpcodes ∨ mode = .unbound ∧ op ∈ unwiredOpcodes then _ else _
  split_ifs with h
  · exact decode_encode (i := .undefined op) (isUndefinedOpcode_iff.mpr h)
  · intro lo hi x hx
    obtain ⟨hwf, henc⟩ := readsBack_decodeOp mode op lo hi
    rw [hx, List.take_cons (one_le_opLength mode op)] at henc
    obtain rfl : x = op := (List.cons.inj henc).1
    rw [hx] at hwf
    exact h (isUndefinedOpcode_iff.mp hwf)

/-- Settles O4: the decoder takes `opLength` bytes, which is the table's number. -/
theorem opcodeByteFixesLength : Obligations.OpcodeByteFixesLength := by
  intro mode op lo hi rest
  have hlen : opLength mode op ≤ (lo :: hi :: rest).length + 1 := (opLength_le_three mode op).trans (by simp)
  rw [decode_cons hlen, ← List.drop_cons (one_le_opLength mode op), opLength_eq]
  rfl

/-- Settles O5: each byte sequence is the encoding of the instruction, and what follows it. -/
theorem writtenOutWordsDecode : Obligations.WrittenOutWordsDecode :=
  ⟨decode_encode (i := .mviA 0x05) rfl [0x76], decode_encode (i := .hlt) rfl [], decode_encode (i := .movAB) rfl [],
    decode_encode (i := .movMA) rfl [], decode_encode (i := .addB) rfl [], decode_encode (i := .adi 0x34) rfl [],
    decode_encode (i := .lxiH 0x2000) rfl [], decode_encode (i := .pushB) rfl [], decode_encode (i := .jnz 0x0810) rfl [],
    decode_encode (i := .call 0x0900) rfl [], decode_encode (i := .lda 0x2000) rfl [], decode_encode (i := .xchg) rfl [],
    decode_encode (i := .undefined 0x08) rfl [0x3C]⟩

end Sys2Proof.Proofs
end

section
/-! PROOFS. The sequencer (40_fetch_execute.md R110 to R120): a cycle by its phase, `running` and `pc`, what an instruction leaves
in `running` and in the reports, that every step completes and consumes its turn, and that the core state's next one depends on
nothing else (60_exceptions.md R277). -/

namespace Sys2Proof.Machine

/-! ## A cycle, case by case (R114 to R117) -/

theorem cycle_of_terminal {s : State} (hp : s.phase ≠ .running) : cycle s = .next s := if_pos hp

theorem cycle_of_cleared {s : State} (hp : s.phase = .running) (hr : s.running = false) :
    cycle s = .next { s with phase := .halted } := by
  simp [cycle, hp, hr]

theorem cycle_of_boundary {s : State} (hp : s.phase = .running) (hr : s.running = true)
    (hb : s.cfg.stackBoundary.toNat ≤ s.pc.toNat) : cycle s = .next { s with phase := .outOfBounds } := by
  simp [cycle, hp, hr, hb]

theorem cycle_of_fetch {s : State} (hp : s.phase = .running) (hr : s.running = true)
    (hb : s.pc.toNat < s.cfg.stackBoundary.toNat) : cycle s = exec s.instrAt s := by
  simp [cycle, hp, hr, Nat.not_le.mpr hb]

/-- What the three bytes at `pc` decode to is the instruction there. -/
theorem State.instrAt_of_decode {s : State} {i : Instr} {rest : List Byte}
    (h : decode s.cfg.unwiredCcMode [s.read8 s.pc, s.read8 (s.pc + 1), s.read8 (s.pc + 2)] = .ok (i, rest)) :
    s.instrAt = i := by
  obtain ⟨op, tail, hbytes, _, rfl, _⟩ := exists_of_decode h
  cases hbytes
  rfl

theorem exec_undefined (op : Byte) (s : State) :
    exec (.undefined op) s = .next { s with pc := s.pc + 1, reports := s.reports ++ [⟨s.pc, op⟩] } := rfl

theorem step_eq_cycle_of_unscheduled {s : State} (h : s.schedule = []) : step s = cycle s := by
  simp only [step, takeTurn, h]

/-- A step on a command turn is that command from the state without the turn. -/
theorem step_eq_issue {s : State} {k : Command} {turns : List Turn} (h : s.schedule = .command k :: turns) :
    step s = .next (issue k { s with schedule := turns }) := by
  simp only [step, takeTurn, h]

/-! ## What an instruction leaves in `running` and in the reports -/

@[simp] theorem alu_running (op : AluOp) (v : Byte) (s : State) : (alu op v s).running = s.running := by rw [alu_eq]
@[simp] theorem alu_reports (op : AluOp) (v : Byte) (s : State) : (alu op v s).reports = s.reports := by rw [alu_eq]

/-- Only HLT writes `running`, and only an undefined opcode reports. -/
theorem Shape.run_running_reports (x : Shape) (s : State) :
    (x.family ≠ .hlt → (x.run s).running = s.running) ∧ (x.family ≠ .undefined → (x.run s).reports = s.reports) := by
  cases x with
  | hlt => exact ⟨fun h => absurd rfl h, fun _ => rfl⟩
  | undefined op => exact ⟨fun _ => rfl, fun h => absurd rfl h⟩
  | alu op src | aluImm op v => simp [Shape.run, aluLoc, Machine.aluImm]
  | inr dst | dcr dst => simp [Shape.run, Machine.inr, Machine.dcr]
  | mov dst src | mvi dst v => simp [Shape.run, mov_eq, mvi_eq]
  | lxi p v | inx p | dcx p => simp [Shape.run, Machine.lxi, Machine.inx, Machine.dcx]
  | push p | pop p => simp [Shape.run, push_eq, pop_eq]
  | jump k a => simp [Shape.run, jump_eq]
  | call k a => simp only [Shape.run, callTo_eq]; split <;> simp
  | ret k => simp only [Shape.run, ret_eq]; split <;> simp
  | lhld a | shld a | xchg => simp [Shape.run]
  | _ => exact ⟨fun _ => rfl, fun _ => rfl⟩

/-! ## Every step completes and consumes its turn -/

/-- Every cycle completes, and writes neither the configuration nor what the oracle and the inspector agent hold. -/
theorem cycle_frame (s : State) :
    ∃ t, cycle s = .next t ∧ t.cfg = s.cfg ∧ t.schedule = s.schedule ∧ t.inspectorDone = s.inspectorDone := by
  obtain ⟨_, hc⟩ | ⟨_, _, hc⟩ | ⟨_, _, _, hc⟩ | ⟨_, _, _, hc⟩ := cycle_cases s
  · exact ⟨_, hc, rfl, rfl, rfl⟩
  · exact ⟨_, hc, rfl, rfl, rfl⟩
  · exact ⟨_, hc, rfl, rfl, rfl⟩
  · obtain ⟨_, _, hcfg, hdone, hsched, _⟩ := (shapeOf s.instrAt).run_controlState s
    exact ⟨_, hc.trans (exec_eq _ s), hcfg, hsched, hdone⟩

theorem issue_cfg_schedule (k : Command) (s : State) :
    (issue k s).cfg = s.cfg ∧ (issue k s).schedule = s.schedule := by
  cases h : s.inspectorDone with
  | true => simp [issue_of_done h]
  | false =>
    obtain ⟨_, _, hcfg, hsched⟩ := inspect_frame k s
    rw [issue_of_not_done h]
    exact ⟨hcfg, hsched⟩

/-- An inspector that has terminated stays so, and after a Terminate command it has (R272). -/
theorem issue_done {k : Command} {s : State} (h : s.inspectorDone = true ∨ k = .terminate) :
    (issue k s).inspectorDone = true := by
  cases hdone : s.inspectorDone with
  | true => rwa [issue_of_done hdone]
  | false =>
    obtain hs | rfl := h
    · exact absurd (hs.symm.trans hdone) (by decide)
    · rw [issue_of_not_done hdone]
      rfl

/-- Every step completes, keeps the configuration and consumes the first turn; the inspector has terminated after it if it had
before or if that turn is Terminate. -/
theorem step_frame (s : State) :
    ∃ t, step s = .next t ∧ t.cfg = s.cfg ∧ t.schedule = s.schedule.tail ∧
      (s.inspectorDone = true ∨ s.schedule.head? = some (.command .terminate) → t.inspectorDone = true) := by
  obtain ⟨hs, hstep⟩ | ⟨rest, hs, hstep⟩ | ⟨k, rest, hs, hstep⟩ := step_cases s
  · obtain ⟨t, hc, hcfg, hsched, hdone⟩ := cycle_frame s
    exact ⟨t, hstep.trans hc, hcfg, by rw [hsched, hs]; rfl, by simp [hs, hdone]⟩
  · obtain ⟨t, hc, hcfg, hsched, hdone⟩ := cycle_frame { s with schedule := rest }
    exact ⟨t, hstep.trans hc, hcfg, by rw [hsched, hs]; rfl, by simp [hs, hdone]⟩
  · obtain ⟨hcfg, hsched⟩ := issue_cfg_schedule k { s with schedule := rest }
    exact ⟨_, hstep, hcfg, by rw [hsched, hs]; rfl, fun h => issue_done (by simpa [hs] using h)⟩

/-- Every step keeps the fairness premise: its turn is Terminate, or a Terminate that comes later still does (R277). -/
theorem inspectorTerminates_of_step {s t : State} (h : InspectorTerminates s) (ht : step s = .next t) :
    InspectorTerminates t := by
  obtain ⟨t', ht', _, hsched, hdone⟩ := step_frame s
  cases ht'.symm.trans ht
  obtain hd | hmem := h
  · exact .inl (hdone (.inl hd))
  · cases hs : s.schedule with
    | nil => simp [hs] at hmem
    | cons turn rest =>
      rw [hs, List.mem_cons] at hmem
      obtain rfl | hrest := hmem
      · exact .inl (hdone (.inr (by rw [hs]; rfl)))
      · exact .inr (by rwa [hsched, hs])

theorem run_succ_of_step {s t : State} (h : step s = .next t) (n : Nat) :
    Host.Core.run core (n + 1) s = Host.Core.run core n t := by
  have hstep : core.step s = .next t := h
  simp only [Host.Core.run, hstep]

/-- By the coming turns: with none left, the premise says that the inspector has terminated. -/
theorem exists_run_of_inspectorTerminates {s : State} (h : InspectorTerminates s) :
    ∃ t, Host.Core.run core s.schedule.length s = .next t ∧ t.schedule = [] ∧ t.inspectorDone = true := by
  induction hs : s.schedule generalizing s with
  | nil => exact ⟨s, rfl, hs, h.resolve_right (by simp [hs])⟩
  | cons turn rest ih =>
    obtain ⟨t, hstep, _, hsched, _⟩ := step_frame s
    rw [List.length_cons, run_succ_of_step hstep]
    exact ih (inspectorTerminates_of_step h hstep) (by rw [hsched, hs]; rfl)

/-! ## The core state alone (R277)

An operation reads only the core state and writes only it, so it commutes with blanking the rest. -/

theorem State.operand_coreState (s : State) (x : Loc) : (coreState s).operand x = s.operand x := by
  cases x with
  | reg r => cases r <;> rfl
  | m => rfl

theorem State.setOperand_coreState (s : State) (x : Loc) (v : Byte) :
    (coreState s).setOperand x v = coreState (s.setOperand x v) := by
  cases x with
  | reg r => cases r <;> rfl
  | m => rfl

theorem alu_coreState (op : AluOp) (v : Byte) (s : State) : alu op v (coreState s) = coreState (alu op v s) := by
  cases op <;> rfl

theorem State.holds_coreState (s : State) (k : Option Cond) : (coreState s).holds k = s.holds k := by
  cases k with
  | none => rfl
  | some k => cases k <;> rfl

theorem Shape.run_coreState (x : Shape) (s : State) : x.run (coreState s) = coreState (x.run s) := by
  cases x with
  | mov dst src =>
    simp only [Shape.run, mov_eq, State.operand_coreState]
    exact State.setOperand_coreState { s with pc := s.pc + 1 } dst _
  | mvi dst v => exact State.setOperand_coreState { s with pc := s.pc + 2 } dst v
  | inr dst =>
    simp only [Shape.run, Machine.inr, State.operand_advance, State.operand_coreState]
    exact congrArg (State.flagCompute · _ _) (State.setOperand_coreState (s.advance 1) dst _)
  | dcr dst =>
    simp only [Shape.run, Machine.dcr, State.operand_advance, State.operand_coreState]
    exact congrArg (State.flagCompute · _ _) (State.setOperand_coreState (s.advance 1) dst _)
  | alu op src =>
    simp only [Shape.run, aluLoc, State.operand_advance, State.operand_coreState]
    exact alu_coreState op _ (s.advance 1)
  | aluImm op v => exact alu_coreState op v (s.advance 2)
  | call k a => simp only [Shape.run, callTo_eq, State.holds_coreState]; split <;> rfl
  | ret k => simp only [Shape.run, ret_eq, State.holds_coreState]; split <;> rfl
  | jump k a => simp only [Shape.run, jump_eq, State.holds_coreState]; rfl
  | lxi p v | inx p | dcx p | pop p => cases p <;> rfl
  | _ => rfl

/-- A cycle commutes with blanking the rest too. -/
theorem cycle_coreState {s t : State} (h : cycle s = .next t) : cycle (coreState s) = .next (coreState t) := by
  obtain ⟨hp, hc⟩ | ⟨hp, hr, hc⟩ | ⟨hp, hr, hb, hc⟩ | ⟨hp, hr, hb, hc⟩ := cycle_cases s <;> rw [hc] at h
  · cases h
    exact cycle_of_terminal (s := coreState s) hp
  · cases h
    exact cycle_of_cleared (s := coreState s) hp hr
  · cases h
    exact cycle_of_boundary (s := coreState s) hp hr hb
  · rw [eq_run_of_exec h, ← Shape.run_coreState, ← exec_eq]
    exact cycle_of_fetch (s := coreState s) hp hr hb

/-- A read, a dump or Terminate writes at most the inspector agent's own flag. -/
theorem coreState_inspect {k : Command} (h : readsOnly k = true) (s : State) :
    coreState (inspect k s).2 = coreState s := by
  cases k with
  | readReg id => simp only [inspect]; split <;> rfl
  | readPair q => simp only [inspect]; split <;> rfl
  | readFlag n => cases n <;> rfl
  | readMem x => simp only [inspect]; split <;> rfl
  | readF | readPC | readSP | readRunning | readThrottle | dumpState | terminate => rfl
  | writeReg | writePair | writeF | writeFlag | writePC | writeSP | writeMem | writeRunning | writeThrottle => cases h

theorem coreState_issue {k : Command} (h : readsOnly k = true) (s : State) : coreState (issue k s) = coreState s := by
  cases hdone : s.inspectorDone with
  | true => rw [issue_of_done hdone]
  | false =>
    rw [issue_of_not_done hdone]
    exact coreState_inspect h s

end Sys2Proof.Machine
end

section
/-! PROOFS. The statements of the fetch and execute family (40_fetch_execute.md). -/

namespace Sys2Proof.Proofs

open Sys2Proof Sys2Proof.Machine

/-- Settles O15: a step only takes a turn away, a command without a write keeps the core state, and a cycle commutes with blanking
the rest. -/
theorem inspectorReadsLeaveCoreStepUnchanged : Obligations.InspectorReadsLeaveCoreStepUnchanged := by
  intro s t hreads ht
  refine ⟨fun k hk => ?premise, fun k turns hs => ?command, fun turns hturn => ?cycle⟩
  case premise =>
    obtain ⟨t', ht', _, hsched, _⟩ := step_frame s
    cases ht'.symm.trans ht
    rw [hsched] at hk
    exact hreads k (List.mem_of_mem_tail hk)
  case command =>
    have hk : readsOnly k = true := hreads k (by simp [hs])
    rw [step_eq_issue hs] at ht
    cases ht
    exact coreState_issue hk { s with schedule := turns }
  case cycle =>
    rw [step_eq_cycle hturn] at ht
    exact (step_eq_cycle (.inl ⟨rfl, rfl⟩)).trans (cycle_coreState (s := { s with schedule := turns }) ht)

/-- Settles O9: a command keeps the phase, and in a terminal phase a cycle leaves the state as it is. -/
theorem terminalPhaseIsKept : Obligations.TerminalPhaseIsKept := by
  intro s t hp ht
  obtain ⟨_, hstep⟩ | ⟨rest, _, hstep⟩ | ⟨k, rest, hs, hstep⟩ := step_cases s <;> rw [hstep] at ht
  · cases (cycle_of_terminal hp).symm.trans ht
    exact ⟨rfl, fun _ => rfl⟩
  · cases (cycle_of_terminal (s := { s with schedule := rest }) hp).symm.trans ht
    exact ⟨rfl, fun _ => rfl⟩
  · cases ht
    exact ⟨issue_phase k _, fun hno => absurd hs (hno k rest)⟩

/-- Settles O11, by the frame of a step and the induction over the coming turns. -/
theorem everyStepAnswersNextState : Obligations.EveryStepAnswersNextState := by
  intro s
  obtain ⟨t, ht, hcfg, hsched, hdone⟩ := step_frame s
  exact ⟨⟨t, ht, hcfg, hsched, fun hd => hdone (.inl hd), fun h => inspectorTerminates_of_step h ht⟩,
    exists_run_of_inspectorTerminates⟩

/-- Settles O12, by the frames of the shapes. -/
theorem everyInstructionCompletes : Obligations.EveryInstructionCompletes := by
  intro i s
  obtain ⟨hphase, hthrottle, hcfg, hdone, hsched, hreplies⟩ := (shapeOf i).run_controlState s
  obtain ⟨hrunning, hreports⟩ := (shapeOf i).run_running_reports s
  rw [family_shapeOf] at hrunning hreports
  exact ⟨_, exec_eq i s, hphase, hthrottle, hcfg, hdone, hsched, hreplies, hrunning, hreports⟩

/-- Settles O45: an undefined opcode decodes to itself, whatever follows it. -/
theorem undefinedOpcodeReports : Obligations.UndefinedOpcodeReports := by
  intro s
  refine ⟨fun op => exec_undefined op s, fun turns hturn hp hr hb hop => ?_⟩
  have hfetch : State.instrAt { s with schedule := turns } = .undefined (s.read8 s.pc) :=
    decodeOp_of_isUndefinedOpcode hop _ _
  rw [step_eq_cycle hturn, cycle_of_fetch (s := { s with schedule := turns }) hp hr hb, hfetch, exec_undefined]

/-- Settles O6: below the boundary a cycle runs the instruction at `pc`, with a turn scheduled or none. -/
theorem stepRunsDecodedInstruction : Obligations.StepRunsDecodedInstruction := by
  intro s i rest turns hp hr hb hdec
  obtain rfl := State.instrAt_of_decode hdec
  exact ⟨fun hs => (step_eq_cycle_of_unscheduled hs).trans (cycle_of_fetch hp hr hb),
    fun hs => (step_eq_cycle (.inr hs)).trans (cycle_of_fetch (s := { s with schedule := turns }) hp hr hb)⟩

/-- Settles O7: the check of `running` comes first. -/
theorem clearedRunningHalts : Obligations.ClearedRunningHalts :=
  fun s turns hturn hp hr => (step_eq_cycle hturn).trans (cycle_of_cleared (s := { s with schedule := turns }) hp hr)

/-- Settles O8: with `running` set, the check of `pc` comes next. -/
theorem pcAtBoundaryEndsInOutOfBounds : Obligations.PcAtBoundaryEndsInOutOfBounds :=
  fun s turns hturn hp hr hb =>
    (step_eq_cycle hturn).trans (cycle_of_boundary (s := { s with schedule := turns }) hp hr hb)

end Sys2Proof.Proofs
end

section
/-! PROOFS. MOV and MVI by their register fields (41_data_movement.md R130 to R134): the next state of a member of each family, for
registers and `M` alike. -/

namespace Sys2Proof.Machine

/-- MOV copies the source as it was before the write (R131); the position MOV M,M is HLT (R93). -/
theorem exec_mkMov {dst src : Loc} (h : ¬(dst = .m ∧ src = .m)) (s : State) :
    exec (mkMov dst src) s = .next ({ s with pc := s.pc + 1 }.setOperand dst (s.operand src)) := by
  rw [exec_eq, shapeOf_mkMov dst src h, Shape.run, mov_eq]

theorem exec_mkMvi (dst : Loc) (v : Byte) (s : State) :
    exec (mkMvi dst v) s = .next ({ s with pc := s.pc + 2 }.setOperand dst v) := by
  rw [exec_eq, shapeOf_mkMvi, Shape.run, mvi_eq]

/-- The opcode byte of MOV M,s as R132 writes it: the block bits and the field of `M` together are `01110`. -/
theorem opcode_movM (n : BitVec 3) : opcode 0b01 0b110 n = (0b01110#5 ++ n : BitVec 8) := by
  decide +revert

end Sys2Proof.Machine
end

section
/-! PROOFS. The statements of the data movement family (41_data_movement.md). -/

namespace Sys2Proof.Proofs

open Sys2Proof Sys2Proof.Machine

/-- Settles O22: no register is `M`, so every pair of registers is a MOV. -/
theorem movRegisterToRegister : Obligations.MovRegisterToRegister :=
  fun dst src s => ⟨encode_mkMov (.reg dst) (.reg src), exec_mkMov (by simp) s⟩

/-- Settles O23: one side is a register, so neither form is the position of HLT; the address is H:L as it was before. -/
theorem movWithMemory : Obligations.MovWithMemory := by
  intro r s
  refine ⟨encode_mkMov (.reg r) .m, exec_mkMov (by simp) s, ?encodeStore, exec_mkMov (by simp) s⟩
  case encodeStore => rw [← opcode_movM]; exact encode_mkMov .m (.reg r)

/-- Settles O24: MVI M is the member of the family with destination field `M`. -/
theorem mviLoadsImmediate : Obligations.MviLoadsImmediate :=
  fun dst v s => ⟨encode_mkMvi (.reg dst) v, exec_mkMvi (.reg dst) v s, encode_mkMvi .m v, exec_mkMvi .m v s⟩

end Sys2Proof.Proofs
end

section
/-! PROOFS. The ALU family (42_alu.md): the value of each operation's 16-bit result, the effect of an ALU instruction in its
register-or-memory and immediate forms alike (R142), and of INR, DCR and the rotates. -/

namespace Sys2Proof.Machine

/-! ## The next state of each family -/

theorem exec_mkAlu (op : AluOp) (x : Loc) (s : State) :
    exec (mkAlu op x) s = .next (alu op (s.operand x) (s.advance 1)) := by
  rw [exec_eq, shapeOf_mkAlu, Shape.run, aluLoc, State.operand_advance]

theorem exec_mkAluImm (op : AluOp) (v : Byte) (s : State) :
    exec (mkAluImm op v) s = .next (alu op v (s.advance 2)) := by
  rw [exec_eq, shapeOf_mkAluImm, Shape.run, Machine.aluImm]

theorem exec_mkInr (x : Loc) (s : State) : exec (mkInr x) s = .next (inr x s) := by
  rw [exec_eq, shapeOf_mkInr, Shape.run]

theorem exec_mkDcr (x : Loc) (s : State) : exec (mkDcr x) s = .next (dcr x s) := by
  rw [exec_eq, shapeOf_mkDcr, Shape.run]

/-! ## The 16-bit result as a number: its low byte goes to A, its bit 8 to CY -/

/-- A bit of a word or a byte, as its number's quotient by the bit's weight. -/
theorem getLsbD_eq_decide {w : Nat} (x : BitVec w) (i : Nat) : x.getLsbD i = decide (x.toNat / 2 ^ i % 2 = 1) :=
  Nat.testBit_eq_decide_div_mod_eq

theorem toNat_carryWord (cy : Bool) : (if cy then 1 else 0 : Word).toNat = cy.toNat := by
  cases cy <;> rfl

theorem toNat_aluResult_add (a v : Byte) (cy : Bool) : (aluResult .add a v cy).toNat = a.toNat + v.toNat := by
  simp only [aluResult]
  bv_omega

theorem toNat_aluResult_adc (a v : Byte) (cy : Bool) :
    (aluResult .adc a v cy).toNat = a.toNat + v.toNat + cy.toNat := by
  have hcy := cy.toNat_le
  have hk := toNat_carryWord cy
  simp only [aluResult]
  bv_omega

theorem toNat_aluResult_sub (a v : Byte) (cy : Bool) :
    (aluResult .sub a v cy).toNat = (65536 + a.toNat - v.toNat) % 65536 := by
  simp only [aluResult]
  bv_omega

theorem toNat_aluResult_sbb (a v : Byte) (cy : Bool) :
    (aluResult .sbb a v cy).toNat = (65536 + a.toNat - (v.toNat + cy.toNat)) % 65536 := by
  have hcy := cy.toNat_le
  have hk := toNat_carryWord cy
  simp only [aluResult]
  bv_omega

/-- CMP computes what SUB does (R150). -/
theorem toNat_aluResult_cmp (a v : Byte) (cy : Bool) :
    (aluResult .cmp a v cy).toNat = (65536 + a.toNat - v.toNat) % 65536 := toNat_aluResult_sub a v cy

theorem loByte_aluResult_cmp_eq_zero_iff (a v : Byte) (cy : Bool) : loByte (aluResult .cmp a v cy) = 0 ↔ a = v := by
  have hbyte := toNat_loByte (aluResult .cmp a v cy)
  rw [toNat_aluResult_cmp] at hbyte
  bv_omega

/-- The arithmetic category takes CY from bit 8 of the result (R140). -/
theorem carryAfter_of_arithmetic {r : Word} {cat : Category} {before c : Bool} (hcat : cat = .arithmetic)
    (h : r.getLsbD 8 = c) : carryAfter r cat before = c := by
  rw [hcat]
  exact h

/-- A sum of two bytes and a carry: bit 8 says whether it exceeds 0xFF. -/
theorem getLsbD_eight_of_sum {r : Word} {k : Nat} (h : r.toNat = k) (hk : k < 512) :
    r.getLsbD 8 = decide (255 < k) := by
  rw [getLsbD_eq_decide, decide_eq_decide]
  omega

theorem toNat_loByte_of_difference {r : Word} {a k : Nat} (h : r.toNat = (65536 + a - k) % 65536) (hk : k ≤ 256) :
    (loByte r).toNat = (a + 256 - k) % 256 := by
  rw [toNat_loByte]
  omega

/-- A difference from a byte, modulo 65536: bit 8 is the borrow. -/
theorem getLsbD_eight_of_difference {r : Word} {a k : Nat} (h : r.toNat = (65536 + a - k) % 65536) (ha : a < 256)
    (hk : k ≤ 256) : r.getLsbD 8 = decide (a < k) := by
  rw [getLsbD_eq_decide, decide_eq_decide]
  omega

theorem loByte_aluResult_ana (a v : Byte) (cy : Bool) : loByte (aluResult .ana a v cy) = a &&& v := by
  simp [aluResult, loByte]

theorem loByte_aluResult_xra (a v : Byte) (cy : Bool) : loByte (aluResult .xra a v cy) = a ^^^ v := by
  simp [aluResult, loByte]

theorem loByte_aluResult_ora (a v : Byte) (cy : Bool) : loByte (aluResult .ora a v cy) = a ||| v := by
  simp [aluResult, loByte]

/-! ## The effect of an ALU instruction, whatever its source and length, and of a rotate -/

section

variable {i : Instr} {op : AluOp} {v r : Byte} {n : Word} {s : State} {k : Nat} {c : Bool}

theorem flag_z_of_aluEffect {t : State} {acc : Byte} (h : AluEffect s t n acc r c) : t.flag .z = decide (r = 0) := by
  obtain ⟨_, hz, _⟩ := h
  exact hz

theorem exists_aluEffect (h : exec i s = .next (alu op v (s.advance n))) (hop : op ≠ .cmp)
    (hr : loByte (aluResult op s.a v (s.flag .cy)) = r)
    (hc : carryAfter (aluResult op s.a v (s.flag .cy)) (aluCategory op) (s.flag .cy) = c) :
    ∃ t, exec i s = .next t ∧ AluEffect s t n r r c := by
  subst hr hc
  have hstate := alu_eq op v (s.advance n)
  rw [if_neg hop] at hstate
  exact ⟨_, h, hstate, alu_flags op v (s.advance n)⟩

theorem exists_aluEffect_of_sum (h : exec i s = .next (alu op v (s.advance n))) (hop : op ≠ .cmp)
    (hcat : aluCategory op = .arithmetic) (hsum : (aluResult op s.a v (s.flag .cy)).toNat = k)
    (hk : k < 512) :
    ∃ t r, exec i s = .next t ∧ r.toNat = k % 256 ∧ AluEffect s t n r r (decide (255 < k)) := by
  have hcarry := getLsbD_eight_of_sum hsum hk
  obtain ⟨t, ht, heffect⟩ := exists_aluEffect h hop rfl (carryAfter_of_arithmetic hcat hcarry)
  exact ⟨t, _, ht, by rw [toNat_loByte, hsum], heffect⟩

theorem exists_aluEffect_of_difference (h : exec i s = .next (alu op v (s.advance n))) (hop : op ≠ .cmp)
    (hcat : aluCategory op = .arithmetic)
    (hdiff : (aluResult op s.a v (s.flag .cy)).toNat = (65536 + s.a.toNat - k) % 65536) (hk : k ≤ 256) :
    ∃ t r, exec i s = .next t ∧ r.toNat = (s.a.toNat + 256 - k) % 256 ∧
      AluEffect s t n r r (decide (s.a.toNat < k)) := by
  have hcarry := getLsbD_eight_of_difference hdiff s.a.isLt hk
  obtain ⟨t, ht, heffect⟩ := exists_aluEffect h hop rfl (carryAfter_of_arithmetic hcat hcarry)
  exact ⟨t, _, ht, toNat_loByte_of_difference hdiff hk, heffect⟩

theorem exists_effect_add (h : exec i s = .next (alu .add v (s.advance n))) :
    ∃ t r, exec i s = .next t ∧ r.toNat = (s.a.toNat + v.toNat) % 256 ∧
      AluEffect s t n r r (decide (255 < s.a.toNat + v.toNat)) :=
  exists_aluEffect_of_sum h nofun rfl (toNat_aluResult_add _ _ _) (by omega)

theorem exists_effect_adc (h : exec i s = .next (alu .adc v (s.advance n))) :
    ∃ t r, exec i s = .next t ∧ r.toNat = (s.a.toNat + v.toNat + (s.flag .cy).toNat) % 256 ∧
      AluEffect s t n r r (decide (255 < s.a.toNat + v.toNat + (s.flag .cy).toNat)) := by
  have hcy := (s.flag .cy).toNat_le
  exact exists_aluEffect_of_sum h nofun rfl (toNat_aluResult_adc _ _ _) (by omega)

theorem exists_effect_sub (h : exec i s = .next (alu .sub v (s.advance n))) :
    ∃ t r, exec i s = .next t ∧ r.toNat = (s.a.toNat + 256 - v.toNat) % 256 ∧
      AluEffect s t n r r (decide (s.a.toNat < v.toNat)) :=
  exists_aluEffect_of_difference h nofun rfl (toNat_aluResult_sub _ _ _) (by omega)

theorem exists_effect_sbb (h : exec i s = .next (alu .sbb v (s.advance n))) :
    ∃ t r, exec i s = .next t ∧ r.toNat = (s.a.toNat + 256 - (v.toNat + (s.flag .cy).toNat)) % 256 ∧
      AluEffect s t n r r (decide (s.a.toNat < v.toNat + (s.flag .cy).toNat)) := by
  have hcy := (s.flag .cy).toNat_le
  exact exists_aluEffect_of_difference h nofun rfl (toNat_aluResult_sbb _ _ _) (by omega)

theorem exists_effect_ana (h : exec i s = .next (alu .ana v (s.advance n))) :
    ∃ t, exec i s = .next t ∧ AluEffect s t n (s.a &&& v) (s.a &&& v) false :=
  exists_aluEffect h nofun (loByte_aluResult_ana _ _ _) rfl

theorem exists_effect_xra (h : exec i s = .next (alu .xra v (s.advance n))) :
    ∃ t, exec i s = .next t ∧ AluEffect s t n (s.a ^^^ v) (s.a ^^^ v) false :=
  exists_aluEffect h nofun (loByte_aluResult_xra _ _ _) rfl

theorem exists_effect_ora (h : exec i s = .next (alu .ora v (s.advance n))) :
    ∃ t, exec i s = .next t ∧ AluEffect s t n (s.a ||| v) (s.a ||| v) false :=
  exists_aluEffect h nofun (loByte_aluResult_ora _ _ _) rfl

/-- CMP leaves A and has the flags of the difference, whose Z says that A and `v` are equal (R150). -/
theorem exists_effect_cmp (h : exec i s = .next (alu .cmp v (s.advance n))) :
    ∃ t r, exec i s = .next t ∧ r.toNat = (s.a.toNat + 256 - v.toNat) % 256 ∧
      AluEffect s t n s.a r (decide (s.a.toNat < v.toNat)) ∧ t.flag .z = decide (s.a = v) := by
  have hdiff := toNat_aluResult_cmp s.a v (s.flag .cy)
  have hcarry := getLsbD_eight_of_difference hdiff s.a.isLt (by omega)
  have heffect : AluEffect s (alu .cmp v (s.advance n)) n s.a (loByte (aluResult .cmp s.a v (s.flag .cy)))
      (decide (s.a.toNat < v.toNat)) := ⟨alu_eq .cmp v (s.advance n), hcarry ▸ alu_flags .cmp v (s.advance n)⟩
  exact ⟨_, _, h, toNat_loByte_of_difference hdiff (by omega), heffect,
    (flag_z_of_aluEffect heffect).trans (decide_eq_decide.mpr (loByte_aluResult_cmp_eq_zero_iff _ _ _))⟩

/-- A rotate writes A, CY and `pc` (R161). -/
theorem exists_effect_rotate {carry : Bool} (h : exec i s = .next (rotate r c s)) (hr : r.toNat = k) (hc : c = carry) :
    ∃ acc fl, exec i s = .next { s with a := acc, f := fl, pc := s.pc + 1 } ∧
      acc.toNat = k ∧ OnlyCarryWritten s.f fl carry := by
  subst hc
  exact ⟨r, _, h, hr, ((s.advance 1).setReg .a r).onlyCarryWritten_setFlag c⟩

end

/-! ## The rotated byte and the bit that leaves it -/

theorem toNat_append {n m : Nat} (x : BitVec n) (y : BitVec m) : (x ++ y).toNat = x.toNat * 2 ^ m + y.toNat := by
  rw [BitVec.toNat_append, ← Nat.shiftLeft_add_eq_or_of_lt y.isLt, Nat.shiftLeft_eq]

/-- A byte moved up by one bit, with `y` in bit 0. -/
theorem toNat_rotateUp (a : Byte) (y : BitVec 1) :
    (a.extractLsb' 0 7 ++ y).toNat = (2 * a.toNat + y.toNat) % 256 := by
  have hy := y.isLt
  rw [toNat_append, BitVec.extractLsb'_toNat, Nat.shiftRight_zero]
  omega

/-- A byte moved down by one bit, with `y` in bit 7. -/
theorem toNat_rotateDown (a : Byte) (y : BitVec 1) :
    (y ++ a.extractLsb' 1 7).toNat = a.toNat / 2 + 128 * y.toNat := by
  have ha := a.isLt
  rw [toNat_append, BitVec.extractLsb'_toNat, Nat.shiftRight_eq_div_pow]
  omega

theorem getLsbD_seven (a : Byte) : a.getLsbD 7 = decide (a.toNat / 128 = 1) := by
  rw [getLsbD_eq_decide, decide_eq_decide]
  omega

theorem getLsbD_zero (a : Byte) : a.getLsbD 0 = decide (a.toNat % 2 = 1) := by
  rw [getLsbD_eq_decide, decide_eq_decide]
  omega

theorem toNat_topBit (a : Byte) : (a.extractLsb' 7 1).toNat = a.toNat / 128 := by
  have ha := a.isLt
  rw [BitVec.extractLsb'_toNat, Nat.shiftRight_eq_div_pow]
  omega

theorem toNat_bottomBit (a : Byte) : (a.extractLsb' 0 1).toNat = a.toNat % 2 := by
  rw [BitVec.extractLsb'_toNat, Nat.shiftRight_zero]

end Sys2Proof.Machine
end

section
/-! PROOFS. The statements of the ALU family (42_alu.md). -/

namespace Sys2Proof.Proofs

open Sys2Proof Sys2Proof.Machine

/-- Settles O25: the register-or-memory and the immediate forms are one ALU step with different lengths. -/
theorem addWithAndWithoutCarry : Obligations.AddWithAndWithoutCarry := fun s =>
  ⟨fun x => ⟨encode_mkAlu .add x, exists_effect_add (exec_mkAlu .add x s)⟩,
    fun v => ⟨encode_mkAluImm .add v, exists_effect_add (exec_mkAluImm .add v s)⟩,
    fun x => ⟨encode_mkAlu .adc x, exists_effect_adc (exec_mkAlu .adc x s)⟩,
    fun v => ⟨encode_mkAluImm .adc v, exists_effect_adc (exec_mkAluImm .adc v s)⟩⟩

/-- Settles O26: bit 8 of the 16-bit difference is the borrow. -/
theorem subtractWithAndWithoutBorrow : Obligations.SubtractWithAndWithoutBorrow := fun s =>
  ⟨fun x => ⟨encode_mkAlu .sub x, exists_effect_sub (exec_mkAlu .sub x s)⟩,
    fun v => ⟨encode_mkAluImm .sub v, exists_effect_sub (exec_mkAluImm .sub v s)⟩,
    fun x => ⟨encode_mkAlu .sbb x, exists_effect_sbb (exec_mkAlu .sbb x s)⟩,
    fun v => ⟨encode_mkAluImm .sbb v, exists_effect_sbb (exec_mkAluImm .sbb v s)⟩⟩

/-- Settles O27: the low byte of a bitwise operation on two widened bytes is that operation on the bytes. -/
theorem logicalOperationsClearCarry : Obligations.LogicalOperationsClearCarry := fun s =>
  ⟨fun x => ⟨encode_mkAlu .ana x, exists_effect_ana (exec_mkAlu .ana x s)⟩,
    fun v => ⟨encode_mkAluImm .ana v, exists_effect_ana (exec_mkAluImm .ana v s)⟩,
    fun x => ⟨encode_mkAlu .xra x, exists_effect_xra (exec_mkAlu .xra x s)⟩,
    fun v => ⟨encode_mkAluImm .xra v, exists_effect_xra (exec_mkAluImm .xra v s)⟩,
    fun x => ⟨encode_mkAlu .ora x, exists_effect_ora (exec_mkAlu .ora x s)⟩,
    fun v => ⟨encode_mkAluImm .ora v, exists_effect_ora (exec_mkAluImm .ora v s)⟩⟩

/-- Settles O28: CMP is SUB without the write to A. -/
theorem compareSetsFlagsOnly : Obligations.CompareSetsFlagsOnly := fun s =>
  ⟨fun x => ⟨encode_mkAlu .cmp x, exists_effect_cmp (exec_mkAlu .cmp x s)⟩,
    fun v => ⟨encode_mkAluImm .cmp v, exists_effect_cmp (exec_mkAluImm .cmp v s)⟩⟩

/-- Settles O29, by the equations of INR and DCR; taking 1 from a byte adds 255 modulo 256. -/
theorem incrementAndDecrementKeepCarry : Obligations.IncrementAndDecrementKeepCarry := by
  intro x s
  obtain ⟨inrF, hinr, hinrF⟩ := inr_eq x s
  obtain ⟨dcrF, hdcr, hdcrF⟩ := dcr_eq x s
  refine ⟨encode_mkInr x, ⟨inrF, _, (exec_mkInr x s).trans (congrArg _ hinr), ?plusOne, hinrF⟩,
    encode_mkDcr x, ⟨dcrF, _, (exec_mkDcr x s).trans (congrArg _ hdcr), ?minusOne, hdcrF⟩⟩
  case plusOne => exact BitVec.toNat_add _ _
  case minusOne => bv_omega

/-- Settles O30: each rotate moves A by one bit and fills the free place with the bit that left or with CY. -/
theorem rotatesMoveAccumulatorAndCarry : Obligations.RotatesMoveAccumulatorAndCarry := by
  intro s
  refine ⟨rfl, exists_effect_rotate (exec_eq .rlc s) ?rlc (getLsbD_seven s.a),
    rfl, exists_effect_rotate (exec_eq .rrc s) ?rrc (getLsbD_zero s.a),
    rfl, exists_effect_rotate (exec_eq .ral s) ?ral (getLsbD_seven s.a),
    rfl, exists_effect_rotate (exec_eq .rar s) ?rar (getLsbD_zero s.a)⟩
  case rlc => rw [toNat_rotateUp, toNat_topBit]
  case rrc => rw [toNat_rotateDown, toNat_bottomBit]
  case ral => rw [toNat_rotateUp, BitVec.toNat_ofBool]
  case rar => rw [toNat_rotateDown, BitVec.toNat_ofBool]

end Sys2Proof.Proofs
end

section
/-! PROOFS. The register pairs (43_register_pair.md): what the stack primitives leave and give back (R180), the encoding and the
next state of a member of each family, whatever its pair (R181 to R188), and what a push or a CALL leaves once undone. -/

namespace Sys2Proof.Machine

/-! ## The stack primitives -/

/-- What every address reads after a push. -/
theorem State.read8_push16 (s : State) (v q : Word) :
    (s.push16 v).read8 q = if q = s.sp - 2 then loByte v else if q = s.sp - 1 then hiByte v else s.read8 q := by
  simp only [State.push16_eq, State.read8, Memory.read_write, BitVec.toNat_inj]

theorem State.read8_push16_lo (s : State) (v : Word) : (s.push16 v).read8 (s.sp - 2) = loByte v := by
  rw [State.read8_push16, if_pos rfl]

theorem State.read8_push16_hi (s : State) (v : Word) : (s.push16 v).read8 (s.sp - 1) = hiByte v := by
  have hne : s.sp - 1 ≠ s.sp - 2 := by bv_omega
  rw [State.read8_push16, if_neg hne, if_pos rfl]

theorem State.read16_push16 (s : State) (v : Word) : (s.push16 v).read16 (s.sp - 2) = v := by
  have hhi : s.sp - 2 + 1 = s.sp - 1 := by bv_omega
  rw [State.read16, hhi, State.read8_push16_lo, State.read8_push16_hi, mk16_hiByte_loByte]

theorem State.push16_sp (s : State) (v : Word) : (s.push16 v).sp = s.sp - 2 := by rw [State.push16_eq]

theorem State.pop16_eq (s : State) : s.pop16 = (s.read16 s.sp, { s with sp := s.sp + 2 }) :=
  Prod.ext s.pop16_value s.pop16_state

/-- A pop after a push gives the value, and leaves of the push only the stored bytes. -/
theorem State.pop16_push16 (s : State) (v : Word) :
    (s.push16 v).pop16 = (v, { s with mem := (s.push16 v).mem }) := by
  have hsp : s.sp - 2 + 2 = s.sp := BitVec.sub_add_cancel _ _
  rw [State.pop16_eq, State.push16_sp, State.read16_push16, hsp, State.push16_eq]

theorem State.pop16_advance (s : State) (n : Word) : (s.advance n).pop16 = (s.pop16.1, s.pop16.2.advance n) := rfl

theorem State.pop16_setPc (s : State) (v : Word) : (s.setPc v).pop16 = (s.pop16.1, s.pop16.2.setPc v) := rfl

/-! ## The pair views of PUSH and POP -/

@[simp] theorem State.stackPair_advance (s : State) (n : Word) (p : StackPair) :
    (s.advance n).stackPair p = s.stackPair p := by
  cases p <;> rfl

theorem State.stackPair_withMem (s : State) (m : Memory) (p : StackPair) :
    { s with mem := m }.stackPair p = s.stackPair p := by
  cases p <;> rfl

theorem State.setStackPair_stackPair (s : State) (p : StackPair) : s.setStackPair p (s.stackPair p) = s := by
  cases p <;> simp [State.setStackPair, State.stackPair, State.setPair, State.pair, State.setF]

/-! ## Encodings (30_encoding.md R90) -/

theorem encode_mkLxi (p : Pair) (v : Word) :
    encode (mkLxi p v) = [0b00#2 ++ pairId p ++ 0b0001#4, loByte v, hiByte v] := by cases p <;> rfl

theorem encode_mkInx (p : Pair) : encode (mkInx p) = [0b00#2 ++ pairId p ++ 0b0011#4] := by cases p <;> rfl

theorem encode_mkDcx (p : Pair) : encode (mkDcx p) = [0b00#2 ++ pairId p ++ 0b1011#4] := by cases p <;> rfl

theorem encode_mkLdax (p : IndPair) : encode (mkLdax p) = [0b000#3 ++ indPairId p ++ 0b1010#4] := by cases p <;> rfl

theorem encode_mkStax (p : IndPair) : encode (mkStax p) = [0b000#3 ++ indPairId p ++ 0b0010#4] := by cases p <;> rfl

theorem encode_mkPush (p : StackPair) : encode (mkPush p) = [0b11#2 ++ stackPairId p ++ 0b0101#4] := by cases p <;> rfl

theorem encode_mkPop (p : StackPair) : encode (mkPop p) = [0b11#2 ++ stackPairId p ++ 0b0001#4] := by cases p <;> rfl

/-! ## The next state of each family -/

theorem exec_mkLxi (p : Pair) (v : Word) (s : State) :
    exec (mkLxi p v) s = .next ({ s with pc := s.pc + 3 }.setPair p v) := by cases p <;> rfl

theorem exec_mkInx (p : Pair) (s : State) :
    exec (mkInx p) s = .next ({ s with pc := s.pc + 1 }.setPair p (s.pair p + 1)) := by cases p <;> rfl

theorem exec_mkDcx (p : Pair) (s : State) :
    exec (mkDcx p) s = .next ({ s with pc := s.pc + 1 }.setPair p (s.pair p - 1)) := by cases p <;> rfl

theorem exec_mkLdax (p : IndPair) (s : State) :
    exec (mkLdax p) s = .next { s with pc := s.pc + 1, a := s.read8 (s.indPair p) } := by cases p <;> rfl

theorem exec_mkStax (p : IndPair) (s : State) :
    exec (mkStax p) s = .next { s with pc := s.pc + 1, mem := s.mem.write (s.indPair p).toNat s.a } := by cases p <;> rfl

theorem exec_mkPush (p : StackPair) (s : State) : exec (mkPush p) s = .next (push p s) := by
  rw [exec_eq, shapeOf_mkPush, Shape.run]

theorem exec_mkPop (p : StackPair) (s : State) : exec (mkPop p) s = .next (pop p s) := by
  rw [exec_eq, shapeOf_mkPop, Shape.run]

theorem exec_call (a : Word) (s : State) : exec (.call a) s = .next (callTo true a s) := exec_eq (.call a) s

theorem exec_ret (s : State) : exec .ret s = .next (ret true s) := exec_eq .ret s

/-! ## A push and the pop that follows it -/

/-- POP takes back what PUSH stored, so it writes the pair with its own value. -/
theorem pop_push (p : StackPair) (s : State) : pop p (push p s) = { s with pc := s.pc + 2, mem := (push p s).mem } := by
  have hpop : pop p (push p s) =
      ({ s.advance 1 with mem := (push p s).mem }.advance 1).setStackPair p (s.stackPair p) := by
    simp only [pop, push, State.stackPair_advance, State.pop16_advance, State.pop16_push16]
  have hview : ({ s.advance 1 with mem := (push p s).mem }.advance 1).stackPair p = s.stackPair p := by
    rw [State.stackPair_advance, State.stackPair_withMem, State.stackPair_advance]
  rw [hpop, ← hview, State.setStackPair_stackPair]
  simp only [State.advance, BitVec.add_assoc]
  rfl

/-- RET takes back the return address that CALL stored, which is the address after the CALL. -/
theorem ret_callTo (a : Word) (s : State) :
    ret true (callTo true a s) = { s with pc := s.pc + 3, mem := (callTo true a s).mem } := by
  simp only [ret, callTo, if_true, State.pop16_advance, State.pop16_setPc, State.pop16_push16]
  rfl

end Sys2Proof.Machine
end

section
/-! PROOFS. The statements of the register-pair family (43_register_pair.md), and of CALL with RET, which use the same stack. -/

namespace Sys2Proof.Proofs

open Sys2Proof Sys2Proof.Machine

/-- Settles O21: the two stored bytes lie at different addresses, and below `sp` they read back as the value. -/
theorem stackPushThenPop : Obligations.StackPushThenPop := by
  intro s v
  refine ⟨s.push16_sp v, s.read8_push16_hi v, s.read8_push16_lo v, s.read16_push16 v, ?otherBytes, ?otherState,
    s.pop16_push16 v, s.pop16_eq⟩
  case otherBytes =>
    intro q hhi hlo
    rw [State.read8_push16, if_neg hlo, if_neg hhi]
  case otherState => rw [State.push16_eq]

/-- Settles O33: words add and subtract modulo 65536, and taking 1 away is adding 65535. -/
theorem inxAndDcxWrapWithoutFlags : Obligations.InxAndDcxWrapWithoutFlags := by
  intro p s
  refine ⟨encode_mkInx p, encode_mkDcx p, s.pair p + 1, s.pair p - 1, ?plusOne, ?minusOne,
    exec_mkInx p s, exec_mkDcx p s⟩
  case plusOne => exact BitVec.toNat_add _ _
  case minusOne => bv_omega

/-- Settles O34, by the whole state PUSH leaves. -/
theorem pushStoresPair : Obligations.PushStoresPair :=
  fun p s => ⟨encode_mkPush p, (exec_mkPush p s).trans (congrArg _ (push_eq p s))⟩

/-- Settles O35: POP PSW is the member of the family that splits the word into A and F. -/
theorem popLoadsPair : Obligations.PopLoadsPair := by
  intro p s
  refine ⟨encode_mkPop p, (exec_mkPop p s).trans (congrArg _ (pop_eq p s)), ?popPsw⟩
  case popPsw =>
    have hpop : exec .popPsw s = .next (pop .psw s) := exec_mkPop .psw s
    rw [hpop, pop_eq]
    simp only [State.setStackPair, State.setReg_a_eq, State.setF, hiByte_mk16, loByte_mk16]

/-- Settles O36: the middle state is the one PUSH leaves. -/
theorem pushThenPopRestoresPair : Obligations.PushThenPopRestoresPair :=
  fun p s => ⟨push p s, exec_mkPush p s, (exec_mkPop p _).trans (congrArg _ (pop_push p s))⟩

/-- Settles O41: the middle state is the one CALL leaves, with the target in `pc`. -/
theorem callThenReturnRestores : Obligations.CallThenReturnRestores :=
  fun a s => ⟨callTo true a s, exec_call a s, rfl, (exec_ret _).trans (congrArg _ (ret_callTo a s))⟩

/-- Settles O31, by the encoding and the next state of LXI. -/
theorem lxiLoadsPair : Obligations.LxiLoadsPair := fun p v s => ⟨encode_mkLxi p v, exec_mkLxi p v s⟩

/-- Settles O32; the two pairs are B:C and D:E by definition. -/
theorem ldaxAndStaxGoThroughPair : Obligations.LdaxAndStaxGoThroughPair :=
  fun p s => ⟨encode_mkLdax p, exec_mkLdax p s, encode_mkStax p, exec_mkStax p s, rfl, rfl⟩

end Sys2Proof.Proofs
end

section
/-! PROOFS. Jumps, calls and returns (44_control_transfer.md): the predicates of the conditions (R200, R201), the next state of
each family, whatever its condition, and the opcodes that mode `Unbound` does not bind (R202). -/

namespace Sys2Proof.Machine

/-! ## The predicates of the conditions -/

theorem State.cond_nz_iff (s : State) : s.cond .nz = true ↔ s.f.getLsbD 6 = false := iff_of_eq (Bool.not_eq_true' _)

theorem State.cond_z_iff (s : State) : s.cond .z = true ↔ s.f.getLsbD 6 = true := Iff.rfl

theorem State.cond_nc_iff (s : State) : s.cond .nc = true ↔ s.f.getLsbD 0 = false := iff_of_eq (Bool.not_eq_true' _)

theorem State.cond_c_iff (s : State) : s.cond .c = true ↔ s.f.getLsbD 0 = true := Iff.rfl

theorem unwired_iff_mem (k : Cond) : unwired k = true ↔ k ∈ [Cond.po, .pe, .p, .m] := by cases k <;> decide

/-- An unwired condition never holds, whatever the flags. -/
theorem State.cond_of_unwired (s : State) {k : Cond} (h : unwired k = true) : s.cond k = true ↔ False := by
  cases k with
  | nz | z | nc | c => cases h
  | po | pe | p | m => exact iff_of_false Bool.false_ne_true id

/-! ## The next state of each family -/

theorem exec_jmp (a : Word) (s : State) : exec (.jmp a) s = .next { s with pc := a } := exec_eq (.jmp a) s

section
variable {s : State} {k : Cond} {holds : Prop} [Decidable holds] (h : s.cond k = true ↔ holds)
include h

theorem exec_mkJcc (a : Word) : exec (mkJcc k a) s = .next { s with pc := if holds then a else s.pc + 3 } := by
  simp only [exec_eq, shapeOf_mkJcc, Shape.run, State.holds, jump_eq, h]

/-- A conditional call is CALL, or passes its three bytes. -/
theorem exec_mkCcc (a : Word) :
    exec (mkCcc k a) s = if holds then exec (.call a) s else .next { s with pc := s.pc + 3 } := by
  simp only [exec_call, exec_eq (mkCcc k a), shapeOf_mkCcc, Shape.run, State.holds, callTo_eq, h, if_true]
  exact apply_ite Host.Outcome.next _ _ _

/-- A conditional return is RET, or passes its one byte. -/
theorem exec_mkRcc : exec (mkRcc k) s = if holds then exec .ret s else .next { s with pc := s.pc + 1 } := by
  simp only [exec_ret, exec_eq (mkRcc k), shapeOf_mkRcc, Shape.run, State.holds, ret_eq, h, if_true]
  exact apply_ite Host.Outcome.next _ _ _

end

/-! ## The opcodes with an unwired condition in mode `Unbound` -/

theorem condOf_condId (k : Cond) : condOf (condId k) = k := by cases k <;> rfl

/-- They are undefined opcodes of one byte: the bytes after them are left. -/
theorem decode_unbound_of_unwired {k : Cond} (h : unwired k = true) {low : BitVec 3}
    (hlow : low = 0b000 ∨ low = 0b010 ∨ low = 0b100) (rest : List Byte) :
    decode .unbound (opcode 0b11 (condId k) low :: rest) = .ok (.undefined (opcode 0b11 (condId k) low), rest) := by
  have hundef : isUndefinedOpcode .unbound (opcode 0b11 (condId k) low) = true :=
    isUndefinedOpcode_of_unwired hlow (by rwa [condOf_condId])
  exact decode_encode (i := .undefined _) hundef rest

end Sys2Proof.Machine
end

section
/-! PROOFS. The statements of the control-transfer family (44_control_transfer.md). -/

namespace Sys2Proof.Proofs

open Sys2Proof Sys2Proof.Machine

/-- Settles O37: each conditional jump is the member of its family, with the predicate of its condition. -/
theorem jumpsGoToTarget : Obligations.JumpsGoToTarget := fun a s =>
  ⟨rfl, exec_jmp a s, encode_mkJcc .nz a, exec_mkJcc s.cond_nz_iff a, encode_mkJcc .z a, exec_mkJcc s.cond_z_iff a,
    encode_mkJcc .nc a, exec_mkJcc s.cond_nc_iff a, encode_mkJcc .c a, exec_mkJcc s.cond_c_iff a⟩

/-- Settles O38, by the whole state CALL leaves and the predicates of the conditions. -/
theorem callsPushReturnAddress : Obligations.CallsPushReturnAddress := fun a s =>
  ⟨rfl, (exec_call a s).trans (congrArg _ (callTo_eq true a s)),
    encode_mkCcc .nz a, exec_mkCcc s.cond_nz_iff a, encode_mkCcc .z a, exec_mkCcc s.cond_z_iff a,
    encode_mkCcc .nc a, exec_mkCcc s.cond_nc_iff a, encode_mkCcc .c a, exec_mkCcc s.cond_c_iff a⟩

/-- Settles O39, by the whole state RET leaves and the predicates of the conditions. -/
theorem returnsPopTarget : Obligations.ReturnsPopTarget := fun s =>
  ⟨rfl, (exec_ret s).trans (congrArg _ (ret_eq true s)),
    encode_mkRcc .nz, exec_mkRcc s.cond_nz_iff, encode_mkRcc .z, exec_mkRcc s.cond_z_iff,
    encode_mkRcc .nc, exec_mkRcc s.cond_nc_iff, encode_mkRcc .c, exec_mkRcc s.cond_c_iff⟩

/-- Settles O40: the predicate of an unwired condition is false, so each family only passes the instruction's bytes. -/
theorem unwiredConditionsNeverTransfer : Obligations.UnwiredConditionsNeverTransfer := by
  intro k a s hk
  have hunwired : unwired k = true := (unwired_iff_mem k).mpr hk
  have hnever : s.cond k = true ↔ False := s.cond_of_unwired hunwired
  refine ⟨encode_mkJcc k a, ?jump, encode_mkCcc k a, ?call, encode_mkRcc k, ?ret, ?unbound⟩
  case jump => simpa only [if_false] using exec_mkJcc hnever a
  case call => simpa only [if_false] using exec_mkCcc hnever a
  case ret => simpa only [if_false] using exec_mkRcc hnever
  case unbound =>
    intro low hlow
    exact decode_unbound_of_unwired hunwired (by revert low; decide)

end Sys2Proof.Proofs
end

section
/-! PROOFS. The next states of the single-slot instructions (45_single_slot.md R240 to R246), with the memory and the registers
they write given byte by byte. -/

namespace Sys2Proof.Machine

/-! ## The pair accesses, byte by byte -/

theorem State.setPair_hl_mk16 (s : State) (x y : Byte) : s.setPair .hl (mk16 x y) = { s with h := x, l := y } := by
  simp only [State.setPair, State.setReg, hiByte_mk16, loByte_mk16]

theorem State.setPair_de_mk16 (s : State) (x y : Byte) : s.setPair .de (mk16 x y) = { s with d := x, e := y } := by
  simp only [State.setPair, State.setReg, hiByte_mk16, loByte_mk16]

/-- The high byte goes to the next address modulo 65536. -/
theorem State.write16_mk16 (s : State) (q : Word) (x y : Byte) :
    s.write16 q (mk16 x y) = { s with mem := (s.mem.write q.toNat y).write (q + 1).toNat x } := by
  simp only [State.write16, State.write8, hiByte_mk16, loByte_mk16]

/-! ## The next state of each instruction -/

theorem exec_nop (s : State) : exec .nop s = .next { s with pc := s.pc + 1 } := exec_eq .nop s

theorem exec_hlt (s : State) : exec .hlt s = .next { s with pc := s.pc + 1, running := false } := exec_eq .hlt s

theorem exec_lda (q : Word) (s : State) : exec (.lda q) s = .next { s with pc := s.pc + 3, a := s.read8 q } :=
  exec_eq (.lda q) s

theorem exec_sta (q : Word) (s : State) :
    exec (.sta q) s = .next { s with pc := s.pc + 3, mem := s.mem.write q.toNat s.a } := exec_eq (.sta q) s

theorem exec_lhld (q : Word) (s : State) :
    exec (.lhld q) s = .next { s with pc := s.pc + 3, l := s.read8 q, h := s.read8 (q + 1) } :=
  (exec_eq (.lhld q) s).trans (congrArg _ ((s.advance 3).setPair_hl_mk16 _ _))

theorem exec_shld (q : Word) (s : State) :
    exec (.shld q) s =
      .next { s with pc := s.pc + 3, mem := (s.mem.write q.toNat s.l).write (q + 1).toNat s.h } :=
  (exec_eq (.shld q) s).trans (congrArg _ ((s.advance 3).write16_mk16 q s.h s.l))

/-- Both pairs are read before either is written. -/
theorem exec_xchg (s : State) :
    exec .xchg s = .next { s with pc := s.pc + 1, h := s.d, d := s.h, l := s.e, e := s.l } := by
  simp only [exec_eq, shapeOf, Shape.run, State.pair, State.setPair_hl_mk16, State.setPair_de_mk16, State.advance]

end Sys2Proof.Machine
end

section
/-! PROOFS. The statements of the single-slot family (45_single_slot.md). -/

namespace Sys2Proof.Proofs

open Sys2Proof Sys2Proof.Machine

/-- Settles O42: HLT leaves the phase to the next cycle, whose first check finds `running` cleared. -/
theorem nopAndHlt : Obligations.NopAndHlt := by
  intro s
  refine ⟨rfl, exec_nop s, rfl, exec_hlt s, ?nextCycle⟩
  case nextCycle =>
    intro turns hturn hp
    exact clearedRunningHalts { s with pc := s.pc + 1, running := false } turns hturn hp rfl

/-- Settles O43, by the next state of each of the four. -/
theorem directLoadsAndStores : Obligations.DirectLoadsAndStores := fun q s =>
  ⟨rfl, exec_lda q s, rfl, exec_sta q s, rfl, exec_lhld q s, rfl, exec_shld q s⟩

/-- Settles O44: the second XCHG swaps the swapped registers. -/
theorem xchgSwapsHlAndDe : Obligations.XchgSwapsHlAndDe := fun s =>
  ⟨rfl, exec_xchg s, exec_xchg { s with pc := s.pc + 1, h := s.d, d := s.h, l := s.e, e := s.l }⟩

end Sys2Proof.Proofs
end

section
/-! PROOFS. The inspector port (60_exceptions.md R260 to R272): the identifiers that name a register or a pair, and each command
that has an argument to check, with the argument accepted and refused. -/

namespace Sys2Proof.Machine

/-! ## Registers (R262, R263) -/

/-- The port numbers the registers as the encoding does. -/
theorem portReg_regId (r : Reg) : portReg (regId r).toNat = some r := by cases r <;> rfl

theorem portReg_of_invalid {id : Nat} (h : id = 6 ∨ 8 ≤ id) : portReg id = none := by
  obtain rfl | h := h
  · rfl
  · obtain ⟨n, rfl⟩ := Nat.exists_eq_add_of_le' h
    rfl

theorem inspect_regCommands {id : Nat} {r : Reg} (h : portReg id = some r) (v : Byte) (s : State) :
    inspect (.readReg id) s = (.byte (s.reg r), s) ∧ inspect (.writeReg id v) s = (.done, s.setReg r v) := by
  simp [inspect, h]

theorem inspect_regCommands_of_none {id : Nat} (h : portReg id = none) (v : Byte) (s : State) :
    inspect (.readReg id) s = (.failed .invalidRegister, s) ∧
    inspect (.writeReg id v) s = (.failed .invalidRegister, s) := by
  simp [inspect, h]

/-! ## Pairs (R264, R265) -/

theorem exists_portPair_of_lt {q : Nat} (h : q < 5) : ∃ p, portPair q = some p := by
  match q, h with
  | 0, _ => exact ⟨.bc, rfl⟩
  | 1, _ => exact ⟨.de, rfl⟩
  | 2, _ => exact ⟨.hl, rfl⟩
  | 3, _ => exact ⟨.sp, rfl⟩
  | 4, _ => exact ⟨.psw, rfl⟩

theorem portPair_of_invalid {q : Nat} (h : 5 ≤ q) : portPair q = none := by
  obtain ⟨n, rfl⟩ := Nat.exists_eq_add_of_le' h
  rfl

theorem inspect_pairCommands {q : Nat} {p : PortPair} (h : portPair q = some p) (v : Word) (s : State) :
    inspect (.readPair q) s = (.word (s.portPairValue p), s) ∧
    inspect (.writePair q v) s = (.done, s.setPortPair p v) := by
  simp [inspect, h]

theorem inspect_pairCommands_of_none {q : Nat} (h : portPair q = none) (v : Word) (s : State) :
    inspect (.readPair q) s = (.failed .invalidPair, s) ∧ inspect (.writePair q v) s = (.failed .invalidPair, s) := by
  simp [inspect, h]

theorem State.portPairValue_setPortPair (s : State) (p : PortPair) (v : Word) :
    (s.setPortPair p v).portPairValue p = v := by
  cases p with
  | bc => exact s.pair_setPair .bc v
  | de => exact s.pair_setPair .de v
  | hl => exact s.pair_setPair .hl v
  | sp => exact s.pair_setPair .sp v
  | psw => exact s.stackPair_setStackPair .psw v

theorem inspect_readPair_writePair {q : Nat} (h : q < 5) (v : Word) (s : State) :
    (inspect (.readPair q) (inspect (.writePair q v) s).2).1 = .word v := by
  obtain ⟨p, hp⟩ := exists_portPair_of_lt h
  obtain ⟨_, hwrite⟩ := inspect_pairCommands hp v s
  obtain ⟨hread, _⟩ := inspect_pairCommands hp v (s.setPortPair p v)
  rw [hwrite, hread, State.portPairValue_setPortPair]

/-! ## Memory (R268) -/

/-- The word of an address up to 0xFFFF is that address. -/
theorem inspect_memCommands {x : Nat} (h : x ≤ 0xFFFF) (v : Byte) (s : State) :
    inspect (.readMem x) s = (.byte (s.mem.read x), s) ∧
    inspect (.writeMem x v) s = (.done, { s with mem := s.mem.write x v }) := by
  have hx : (BitVec.ofNat 16 x).toNat = x := (BitVec.toNat_ofNat x 16).trans (Nat.mod_eq_of_lt (by omega))
  simp only [inspect, if_pos h, State.read8, State.write8, hx, and_self]

theorem inspect_memCommands_of_gt {x : Nat} (h : 0xFFFF < x) (v : Byte) (s : State) :
    inspect (.readMem x) s = (.failed .invalidAddress, s) ∧
    inspect (.writeMem x v) s = (.failed .invalidAddress, s) := by
  simp only [inspect, if_neg (Nat.not_le.mpr h), and_self]

/-! ## The end of the run (R272, R295) -/

theorem State.runEnded_iff (s : State) : s.runEnded = true ↔ s.phase ≠ .running ∧ s.inspectorDone = true := by
  simp only [State.runEnded, Bool.and_eq_true, bne_iff_ne]

end Sys2Proof.Machine
end

section
/-! PROOFS. The statements of the inspector port family (60_exceptions.md). -/

namespace Sys2Proof.Proofs

open Sys2Proof Sys2Proof.Machine

/-- Settles O52, by what the port's identifiers name. -/
theorem registerCommands : Obligations.RegisterCommands := fun s v =>
  ⟨fun r => inspect_regCommands (portReg_regId r) v s,
    fun _ hid => inspect_regCommands_of_none (portReg_of_invalid hid) v s⟩

/-- Settles O53: each pair written out is the view its identifier names, and a view reads back what was written to it. -/
theorem pairCommands : Obligations.PairCommands := by
  intro s v
  obtain ⟨readBC, writeBC⟩ := inspect_pairCommands (q := 0) (p := .bc) rfl v s
  obtain ⟨readDE, writeDE⟩ := inspect_pairCommands (q := 1) (p := .de) rfl v s
  obtain ⟨readHL, writeHL⟩ := inspect_pairCommands (q := 2) (p := .hl) rfl v s
  obtain ⟨readSP, writeSP⟩ := inspect_pairCommands (q := 3) (p := .sp) rfl v s
  obtain ⟨readPSW, writePSW⟩ := inspect_pairCommands (q := 4) (p := .psw) rfl v s
  exact ⟨readBC, readDE, readHL, readSP, readPSW, writeBC, writeDE, writeHL, writeSP, writePSW,
    fun _ hq => inspect_readPair_writePair hq v s,
    fun _ hq => inspect_pairCommands_of_none (portPair_of_invalid hq) v s⟩

/-- Settles O54: the bit listed with each name is the flag's bit, and setting a bit changes no other. -/
theorem flagCommands : Obligations.FlagCommands := by
  intro s v x
  refine ⟨rfl, rfl, fun p hp => ?named, rfl, rfl⟩
  case named =>
    have hbit : p.2 = flagBit p.1 := by revert p; decide
    rw [hbit]
    exact ⟨rfl, setBit s.f (flagBit p.1) x, rfl, fun j hj => getLsbD_setBit s.f (flagBit p.1) j x hj⟩

/-- Settles O55, by the law of reading memory after a write. -/
theorem memoryCommands : Obligations.MemoryCommands := by
  intro s x v
  refine ⟨fun hx => ?valid, fun hx => inspect_memCommands_of_gt hx v s⟩
  case valid =>
    obtain ⟨hread, hwrite⟩ := inspect_memCommands hx v s
    exact ⟨hread, s.mem.write x v, hwrite, fun q => Memory.read_write s.mem x q v⟩

/-- Settles O51: a command turn is `issue`, whose two cases are these. -/
theorem commandTurnIsOneStep : Obligations.CommandTurnIsOneStep := by
  intro s k rest hs
  rw [step_eq_issue hs]
  exact ⟨fun hdone => congrArg _ (issue_of_not_done (s := { s with schedule := rest }) hdone k),
    fun hdone => congrArg _ (issue_of_done (s := { s with schedule := rest }) hdone k)⟩

/-- Settles O56: after a write of `running` the next cycle is the one with that value: it halts, fetches, or in a terminal phase
runs nothing. -/
theorem controlRegisterCommands : Obligations.ControlRegisterCommands := by
  intro s w x n
  refine ⟨rfl, rfl, rfl, rfl, rfl, rfl, rfl, rfl, fun turns hturn hp => ?cleared, fun turns hturn hp hb => ?fetch,
    fun turns hturn hp => ?terminal⟩
  case cleared => exact clearedRunningHalts { s with running := false } turns hturn hp rfl
  case fetch =>
    exact (step_eq_cycle (s := { s with running := true }) hturn).trans
      (cycle_of_fetch (s := { s with running := true, schedule := turns }) hp rfl hb)
  case terminal =>
    exact (step_eq_cycle (s := { s with running := true }) hturn).trans
      (cycle_of_terminal (s := { s with running := true, schedule := turns }) hp)

/-- Settles O57: the five flags of the dump are bits of F. -/
theorem dumpAndTerminate : Obligations.DumpAndTerminate :=
  fun s => ⟨rfl, rfl, fun _ _ => rfl, fun hdone k => issue_of_done hdone k, s.runEnded_iff⟩

end Sys2Proof.Proofs
end

section
/-! PROOFS. The load failures of the reset family (70_reset_and_hazards.md R293). -/

namespace Sys2Proof.Machine

theorem State.boot_of_unreadable (cfg : Config) (turns : List Turn) :
    State.boot cfg turns none = .refused .imageUnreadable := rfl

theorem State.boot_of_tooLarge {cfg : Config} {bytes : List Byte}
    (h : cfg.stackBoundary.toNat < cfg.loadAddr.toNat + bytes.length) (turns : List Turn) :
    State.boot cfg turns (some bytes) = .refused .imageTooLarge :=
  if_neg (Nat.not_le.mpr h)

end Sys2Proof.Machine

namespace Sys2Proof.Proofs

open Sys2Proof Sys2Proof.Machine

/-- Settles O60: the exact edge and the empty image both fit, and storing an image leaves the `pc` of reset. -/
theorem failedLoadConstructsNoState : Obligations.FailedLoadConstructsNoState := by
  intro cfg turns bytes
  refine ⟨State.boot_of_unreadable cfg turns, fun hlarge => State.boot_of_tooLarge hlarge turns,
    fun hedge => ?edge, fun hfit => ?empty⟩
  case edge => exact ⟨_, State.boot_of_fits hedge.le turns, State.storeBytes_pc _ _ _⟩
  case empty => exact State.boot_of_fits (bytes := []) hfit turns

end Sys2Proof.Proofs
end
